-- ==== Sys2Proof/Word.lean ====
section
/-! DEFINITION. The plain word types of the HJK-420: bytes and two-byte fields of its wires, 32-bit
counters, Ethernet addresses, sync words. Only type names stand here. -/

namespace Sys2Proof

/-- One byte of any wire (R180). -/
abbrev Byte := BitVec 8

/-- A two-byte field, most significant byte first on the wire (R180). -/
abbrev Half := BitVec 16

/-- A 32-bit wrapping counter (R17, R40, R115, R122, R123, R148) and the seconds counter (R178). -/
abbrev Counter := BitVec 32

/-- A 48-bit Ethernet address, first byte most significant (R180). -/
abbrev Mac := BitVec 48

/-- A 24-bit sync word or sync pattern (R7). -/
abbrev SyncWord := BitVec 24

/-- A termination code: each bit switches one load (R20). -/
abbrev LoadCode := BitVec 6

/-- A print block sequence, 0 to 15, wrapping (R4). -/
abbrev BlockSeq := BitVec 4

/-- A segment port number, 0 to 3 (R18). -/
abbrev SegIx := Fin 4

/-- A sync entry index, 0 to 2 (R7). -/
abbrev SyncIx := Fin 3

end Sys2Proof
end

