-- ==== Sys2Proof/Syntax.lean ====
section
/-! DEFINITION. The commands of the block: one constructor per row of spec/opcode_table.json. A request row is the
arrival of that request's message, well formed, with its tag and the fields of R189 as the bytes carry them; a
reset, wire, timer or internal event row carries what the outside brings to the event. -/

namespace Sys2Proof

/-- One item the management receiver takes from its line: a byte, or a line error (R168). -/
inductive LineItem where
  | byte (b : Byte)
  | lineError
  deriving DecidableEq, Repr

/-- The body of SET_SEGMENT_CONFIG after its segment, field by field as R189 lays it out. -/
structure SegmentConfigBody where
  window : Byte
  shift : Byte
  high : Half
  low : Half
  strikes : Byte
  rejoinWindows : Byte
  maskWindows : Byte
  isolateSet : Byte
  autoIsolate : Byte
  autoRejoin : Byte
  autoTest : Byte
  flapLimit : Byte
  vf : Half
  parkPolicy : Byte
  settleTime : Byte
  deriving DecidableEq, Repr

/-- One excursion of the line after the probe pulse, as the ranging circuit sees it (R73; log entry 23): the count at which it
reached 10% of the probe's amplitude (where it stood, when it never did), its peak in the unit of the probe's amplitude, and
its sign. -/
structure Excursion where
  count : Nat
  peak : Nat
  negative : Bool
  deriving DecidableEq, Repr

/-- What the line did after the probe pulse: the pulse's amplitude and the line's excursions, nearest first (R73; log entry
23). -/
structure RangingLine where
  probe : Nat
  line : List Excursion
  deriving DecidableEq, Repr

/-- The commands, one constructor per row of spec/opcode_table.json. -/
inductive Instr where
  -- the part
  | pinOrPowerReset (strap1 strap2 : Bool)
  | timeBaseTick
  | messageReceived (line : List LineItem)
  | messageSent (strap1 strap2 : Bool)
  | getInfo (tag : Byte)
  | getStatus (tag : Byte)
  | reset (tag : Byte)
  | setNotices (tag : Byte) (kinds : Half)
  -- segment requests
  | setSegmentConfig (tag seg : Byte) (body : SegmentConfigBody)
  | enableSegment (tag seg : Byte)
  | disableSegment (tag seg : Byte)
  | isolateSegment (tag seg : Byte)
  | rejoinSegment (tag seg : Byte)
  | parkSegment (tag seg : Byte)
  | setTrim (tag seg code : Byte)
  | startLineTest (tag seg trim : Byte)
  | abortLineTest (tag seg : Byte)
  | getSegment (tag seg : Byte)
  | getFaults (tag seg : Byte)
  | clearFaults (tag seg : Byte)
  | clearHistory (tag seg : Byte)
  | setSyncWord (tag index : Byte) (pattern : SyncWord) (tolerance enabled : Byte)
  -- addressing requests
  | getStation (tag number : Byte)
  | listStations (tag number : Byte)
  | pin (tag number seg : Byte)
  | unpin (tag number : Byte)
  | forget (tag number : Byte)
  | setAging (tag unit hold : Byte)
  | setGatewayNumber (tag number : Byte)
  | setAlias (tag index number : Byte) (mac : Mac)
  | clearAlias (tag index : Byte)
  | setProxyBase (tag : Byte) (mac : Mac)
  -- uplink, ports and pool requests
  | setUplink (tag : Byte) (etherType : Half) (broadcast : Byte)
  | getPortCounters (tag port clear : Byte)
  | setPool (tag : Byte) (reserve quota : Half)
  | getPool (tag : Byte)
  -- printing requests
  | setGroup (tag group service mode threshold : Byte) (members : List Byte) (rebind : Option Byte)
  | clearGroup (tag group : Byte)
  | setPrinter (tag printer station : Byte) (rate blockTimeout endTimeout : Half) (stopAfter : Byte)
  | clearPrinter (tag printer : Byte)
  | holdPrinter (tag printer : Byte)
  | releasePrinter (tag printer : Byte)
  | getPrinter (tag printer : Byte)
  | getJob (tag : Byte) (job : Half)
  | cancelJob (tag : Byte) (job : Half)
  | listJobs (tag : Byte) (start : Half)
  | setJobIdle (tag : Byte) (time : Half)
  -- receiver and transmitter events of a segment
  | activityStart (seg : SegIx)
  | syncWordComplete (seg : SegIx) (word : SyncWord)
  | activityEnd (seg : SegIx) (bytes : List Byte)
  | collisionDetected (seg : SegIx)
  | jabberMark (seg : SegIx)
  | transmitAttempt (seg : SegIx)
  | backoffExpiry (seg : SegIx)
  | copySent (seg : SegIx)
  | settleTimerExpiry (seg : SegIx)
  -- orders between port, supervisor and tester
  | isolationOrder (seg : SegIx)
  | rejoinOrder (seg : SegIx)
  | isolationOrderResult (seg : SegIx)
  | supervisorStateEntry (seg : SegIx)
  | testerSegmentLeftIsolated (seg : SegIx)
  | windowExpiry (seg : SegIx)
  | flapTimerExpiry (seg : SegIx)
  | autoTestRequest (seg : SegIx)
  -- the line tester
  | quietCheckPassed
  | quietCheckFailed
  | quietWaitExpiry
  | probeDisturbed
  | rangingComplete (echo : RangingLine)
  | trimProbeComplete (ohmNum ohmDen : Nat)
  -- stations and the uplink
  | agingTimerExpiry
  | uplinkUp
  | uplinkDown
  | tunnelFrameReceived (frame : List Byte)
  | uplinkTransmitStart
  | uplinkSendDone (sent : Bool)
  -- printing
  | idleTimerExpiry (job : Half)
  | jobChangeTaken
  | printerEvaluation
  | blockTimerExpiry (printer : Fin 16)
  | retryTimerExpiry (printer : Fin 16)
  | endTimerExpiry (printer : Fin 16)
  | resetPinHeld
  deriving DecidableEq, Repr

end Sys2Proof
end

