-- ==== Sys2Proof/Decode.lean ====
section
/-! DEFINITION. What the wires spell: the table's words (it gives no row any bits), and the request messages of R184 and R189,
code by code and body by body. -/

namespace Sys2Proof

/-- The command a word of the opcode table spells: none, for the table gives no row any bits. -/
def decodeTableWord (_nbits _w : Nat) : Option Instr := none

/-! ## Fields of a request body (R180, R189) -/

/-- The two bytes of a field, most significant first. -/
def fieldBytes (h : Half) : List Byte := [h.extractLsb' 8 8, h.extractLsb' 0 8]

/-- The three bytes of a pattern. -/
def patternField (p : SyncWord) : List Byte := [p.extractLsb' 16 8, p.extractLsb' 8 8, p.extractLsb' 0 8]

/-- The six bytes of a MAC, first byte first. -/
def macField (m : Mac) : List Byte :=
  [m.extractLsb' 40 8, m.extractLsb' 32 8, m.extractLsb' 24 8, m.extractLsb' 16 8, m.extractLsb' 8 8, m.extractLsb' 0 8]

/-- A two-byte field from its bytes. -/
def joinHalf (hi lo : Byte) : Half := hi ++ lo

/-- A pattern from its bytes. -/
def joinPattern (a b c : Byte) : SyncWord := (a ++ b : BitVec 16) ++ c

/-- A MAC from its bytes. -/
def joinMac (a b c d e f : Byte) : Mac :=
  ((((a ++ b : BitVec 16) ++ c : BitVec 24) ++ d : BitVec 32) ++ e : BitVec 40) ++ f

/-! ## Bodies of the sizes R189 gives -/

/-- A body of no bytes. -/
def body0 (i : Instr) : List Byte → Option Instr
  | [] => some i
  | _ => none

/-- A body of one byte. -/
def body1 (f : Byte → Instr) : List Byte → Option Instr
  | [a] => some (f a)
  | _ => none

/-- A body of two bytes. -/
def body2 (f : Byte → Byte → Instr) : List Byte → Option Instr
  | [a, b] => some (f a b)
  | _ => none

/-- SET_SEGMENT_CONFIG's 19 bytes. -/
def configBody (tag : Byte) : List Byte → Option Instr
  | [seg, w, k, h1, h0, l1, l0, st, rj, mk, iso, ai, ar, at_, fl, v1, v0, pp, se] =>
    some (.setSegmentConfig tag seg
      { window := w, shift := k, high := joinHalf h1 h0, low := joinHalf l1 l0, strikes := st, rejoinWindows := rj,
        maskWindows := mk, isolateSet := iso, autoIsolate := ai, autoRejoin := ar, autoTest := at_, flapLimit := fl,
        vf := joinHalf v1 v0, parkPolicy := pp, settleTime := se })
  | _ => none

/-- SET_SYNC_WORD's 6 bytes. -/
def syncBody (tag : Byte) : List Byte → Option Instr
  | [i, a, b, c, t, e] => some (.setSyncWord tag i (joinPattern a b c) t e)
  | _ => none

/-- SET_ALIAS's 8 bytes. -/
def aliasBody (tag : Byte) : List Byte → Option Instr
  | [i, n, a, b, c, d, e, f] => some (.setAlias tag i n (joinMac a b c d e f))
  | _ => none

/-- SET_PROXY_BASE's 6 bytes. -/
def proxyBody (tag : Byte) : List Byte → Option Instr
  | [a, b, c, d, e, f] => some (.setProxyBase tag (joinMac a b c d e f))
  | _ => none

/-- SET_UPLINK's 3 bytes. -/
def uplinkBody (tag : Byte) : List Byte → Option Instr
  | [a, b, c] => some (.setUplink tag (joinHalf a b) c)
  | _ => none

/-- SET_POOL's 4 bytes. -/
def poolBody (tag : Byte) : List Byte → Option Instr
  | [a, b, c, d] => some (.setPool tag (joinHalf a b) (joinHalf c d))
  | _ => none

/-- SET_GROUP's bytes: as many members as the count says, and then a rebind flag or nothing. -/
def groupBody (tag : Byte) : List Byte → Option Instr
  | g :: sv :: m :: e :: n :: rest =>
    match rest.drop n.toNat with
    | [] => if rest.length = n.toNat then some (.setGroup tag g sv m e rest none) else none
    | [r] => some (.setGroup tag g sv m e (rest.take n.toNat) (some r))
    | _ => none
  | _ => none

/-- SET_PRINTER's 9 bytes. -/
def printerBody (tag : Byte) : List Byte → Option Instr
  | [p, st, r1, r0, b1, b0, e1, e0, sa] => some (.setPrinter tag p st (joinHalf r1 r0) (joinHalf b1 b0) (joinHalf e1 e0) sa)
  | _ => none

/-- A body of one two-byte field. -/
def halfBody (f : Half → Instr) : List Byte → Option Instr
  | [a, b] => some (f (joinHalf a b))
  | _ => none

/-! ## The codes of each family (R184) -/

/-- The part's requests, codes 0x10 to 0x13. -/
def decodePart (code tag : Byte) (body : List Byte) : Option Instr :=
  if code = 0x10 then body0 (.getInfo tag) body
  else if code = 0x11 then body0 (.getStatus tag) body
  else if code = 0x12 then body0 (.reset tag) body
  else if code = 0x13 then halfBody (.setNotices tag) body
  else none

/-- The segment requests, codes 0x20 to 0x2D. -/
def decodeSegment (code tag : Byte) (body : List Byte) : Option Instr :=
  if code = 0x20 then configBody tag body
  else if code = 0x21 then body1 (.enableSegment tag) body
  else if code = 0x22 then body1 (.disableSegment tag) body
  else if code = 0x23 then body1 (.isolateSegment tag) body
  else if code = 0x24 then body1 (.rejoinSegment tag) body
  else if code = 0x25 then body1 (.parkSegment tag) body
  else if code = 0x26 then body2 (.setTrim tag) body
  else if code = 0x27 then body2 (.startLineTest tag) body
  else if code = 0x28 then body1 (.abortLineTest tag) body
  else if code = 0x29 then body1 (.getSegment tag) body
  else if code = 0x2A then body1 (.getFaults tag) body
  else if code = 0x2B then body1 (.clearFaults tag) body
  else if code = 0x2C then body1 (.clearHistory tag) body
  else if code = 0x2D then syncBody tag body
  else none

/-- The addressing requests, codes 0x40 to 0x49. -/
def decodeAddress (code tag : Byte) (body : List Byte) : Option Instr :=
  if code = 0x40 then body1 (.getStation tag) body
  else if code = 0x41 then body1 (.listStations tag) body
  else if code = 0x42 then body2 (.pin tag) body
  else if code = 0x43 then body1 (.unpin tag) body
  else if code = 0x44 then body1 (.forget tag) body
  else if code = 0x45 then body2 (.setAging tag) body
  else if code = 0x46 then body1 (.setGatewayNumber tag) body
  else if code = 0x47 then aliasBody tag body
  else if code = 0x48 then body1 (.clearAlias tag) body
  else if code = 0x49 then proxyBody tag body
  else none

/-- The uplink, port and pool requests, codes 0x60, 0x61, 0x70 and 0x71. -/
def decodeUplink (code tag : Byte) (body : List Byte) : Option Instr :=
  if code = 0x60 then uplinkBody tag body
  else if code = 0x61 then body2 (.getPortCounters tag) body
  else if code = 0x70 then poolBody tag body
  else if code = 0x71 then body0 (.getPool tag) body
  else none

/-- The printing requests, codes 0x80 to 0x8A. -/
def decodePrint (code tag : Byte) (body : List Byte) : Option Instr :=
  if code = 0x80 then groupBody tag body
  else if code = 0x81 then body1 (.clearGroup tag) body
  else if code = 0x82 then printerBody tag body
  else if code = 0x83 then body1 (.clearPrinter tag) body
  else if code = 0x84 then body1 (.holdPrinter tag) body
  else if code = 0x85 then body1 (.releasePrinter tag) body
  else if code = 0x86 then body1 (.getPrinter tag) body
  else if code = 0x87 then halfBody (.getJob tag) body
  else if code = 0x88 then halfBody (.cancelJob tag) body
  else if code = 0x89 then halfBody (.listJobs tag) body
  else if code = 0x8A then halfBody (.setJobIdle tag) body
  else none

/-- The request a message's code, tag and body spell; none when the code names no request or the body's size is not one the
request takes (R170 line 5, R184, R189). -/
def decodeRequest (code tag : Byte) (body : List Byte) : Option Instr :=
  if code.toNat < 0x20 then decodePart code tag body
  else if code.toNat < 0x40 then decodeSegment code tag body
  else if code.toNat < 0x60 then decodeAddress code tag body
  else if code.toNat < 0x80 then decodeUplink code tag body
  else decodePrint code tag body

/-! ## Encoding -/

/-- SET_SEGMENT_CONFIG's fields after its segment (R189). -/
def SegmentConfigBody.bytes (b : SegmentConfigBody) : List Byte :=
  [b.window, b.shift] ++ fieldBytes b.high ++ fieldBytes b.low ++
    [b.strikes, b.rejoinWindows, b.maskWindows, b.isolateSet, b.autoIsolate, b.autoRejoin, b.autoTest, b.flapLimit] ++
    fieldBytes b.vf ++ [b.parkPolicy, b.settleTime]

/-- The code, tag and body of a request command's message; none for the other commands (R184, R189). -/
def encodeRequest : Instr → Option (Byte × Byte × List Byte)
  | .getInfo tag => some (0x10, tag, [])
  | .getStatus tag => some (0x11, tag, [])
  | .reset tag => some (0x12, tag, [])
  | .setNotices tag kinds => some (0x13, tag, fieldBytes kinds)
  | .setSegmentConfig tag seg body => some (0x20, tag, seg :: body.bytes)
  | .enableSegment tag seg => some (0x21, tag, [seg])
  | .disableSegment tag seg => some (0x22, tag, [seg])
  | .isolateSegment tag seg => some (0x23, tag, [seg])
  | .rejoinSegment tag seg => some (0x24, tag, [seg])
  | .parkSegment tag seg => some (0x25, tag, [seg])
  | .setTrim tag seg code => some (0x26, tag, [seg, code])
  | .startLineTest tag seg trim => some (0x27, tag, [seg, trim])
  | .abortLineTest tag seg => some (0x28, tag, [seg])
  | .getSegment tag seg => some (0x29, tag, [seg])
  | .getFaults tag seg => some (0x2A, tag, [seg])
  | .clearFaults tag seg => some (0x2B, tag, [seg])
  | .clearHistory tag seg => some (0x2C, tag, [seg])
  | .setSyncWord tag index pattern tolerance enabled =>
    some (0x2D, tag, index :: patternField pattern ++ [tolerance, enabled])
  | .getStation tag number => some (0x40, tag, [number])
  | .listStations tag number => some (0x41, tag, [number])
  | .pin tag number seg => some (0x42, tag, [number, seg])
  | .unpin tag number => some (0x43, tag, [number])
  | .forget tag number => some (0x44, tag, [number])
  | .setAging tag unit hold => some (0x45, tag, [unit, hold])
  | .setGatewayNumber tag number => some (0x46, tag, [number])
  | .setAlias tag index number mac => some (0x47, tag, [index, number] ++ macField mac)
  | .clearAlias tag index => some (0x48, tag, [index])
  | .setProxyBase tag mac => some (0x49, tag, macField mac)
  | .setUplink tag etherType broadcast => some (0x60, tag, fieldBytes etherType ++ [broadcast])
  | .getPortCounters tag port clear => some (0x61, tag, [port, clear])
  | .setPool tag reserve quota => some (0x70, tag, fieldBytes reserve ++ fieldBytes quota)
  | .getPool tag => some (0x71, tag, [])
  | .setGroup tag group service mode threshold members rebind =>
    some (0x80, tag, [group, service, mode, threshold, BitVec.ofNat 8 members.length] ++ members ++ rebind.toList)
  | .clearGroup tag group => some (0x81, tag, [group])
  | .setPrinter tag printer station rate blockTimeout endTimeout stopAfter =>
    some (0x82, tag, [printer, station] ++ fieldBytes rate ++ fieldBytes blockTimeout ++ fieldBytes endTimeout ++ [stopAfter])
  | .clearPrinter tag printer => some (0x83, tag, [printer])
  | .holdPrinter tag printer => some (0x84, tag, [printer])
  | .releasePrinter tag printer => some (0x85, tag, [printer])
  | .getPrinter tag printer => some (0x86, tag, [printer])
  | .getJob tag job => some (0x87, tag, fieldBytes job)
  | .cancelJob tag job => some (0x88, tag, fieldBytes job)
  | .listJobs tag start => some (0x89, tag, fieldBytes start)
  | .setJobIdle tag time => some (0x8A, tag, fieldBytes time)
  | .pinOrPowerReset _ _ => none
  | .timeBaseTick => none
  | .messageReceived _ => none
  | .messageSent _ _ => none
  | .activityStart _ => none
  | .syncWordComplete _ _ => none
  | .activityEnd _ _ => none
  | .collisionDetected _ => none
  | .jabberMark _ => none
  | .transmitAttempt _ => none
  | .backoffExpiry _ => none
  | .copySent _ => none
  | .settleTimerExpiry _ => none
  | .isolationOrder _ => none
  | .rejoinOrder _ => none
  | .isolationOrderResult _ => none
  | .supervisorStateEntry _ => none
  | .testerSegmentLeftIsolated _ => none
  | .windowExpiry _ => none
  | .flapTimerExpiry _ => none
  | .autoTestRequest _ => none
  | .quietCheckPassed => none
  | .quietCheckFailed => none
  | .quietWaitExpiry => none
  | .probeDisturbed => none
  | .rangingComplete _ => none
  | .trimProbeComplete _ _ => none
  | .agingTimerExpiry => none
  | .uplinkUp => none
  | .uplinkDown => none
  | .tunnelFrameReceived _ => none
  | .uplinkTransmitStart => none
  | .uplinkSendDone _ => none
  | .idleTimerExpiry _ => none
  | .jobChangeTaken => none
  | .printerEvaluation => none
  | .blockTimerExpiry _ => none
  | .retryTimerExpiry _ => none
  | .endTimerExpiry _ => none
  | .resetPinHeld => none

end Sys2Proof
end

