-- ==== Sys2Proof/Config.lean ====
section
/-! DEFINITION. The free values: what the manual leaves to chance or does not state. They have no body, so nothing
in Lean can evaluate them or prove a value of them. -/

namespace Sys2Proof

/-- The draw behind a backoff: R38 has the transmitter choose a number of slots uniformly in a range and gives no
way to foresee it. Applied to State's draw counter and reduced into R38's range. FREE VALUE, log entry 8. -/
opaque Config.backoffDraw : Nat → Nat

/-- The 32 bits of a jam: R38 has the transmitter drive a 32-bit jam at a collision and gives no pattern for it. Applied to State's
draw counter. FREE VALUE, log entry 45. -/
opaque Config.jamDraw : Nat → BitVec 32

/-- The printer-side sequence a job record holds between its opening and its first start: R133 gives the field
the range 0 to 15, and no rule gives it a value before R156 sets it. Applied to State's draw counter.
FREE VALUE, log entry 22. -/
opaque Config.unsetPrinterSequence : Nat → BlockSeq

end Sys2Proof
end

