-- ==== Sys2Proof/Machine/Types.lean ====
section
/-! DEFINITION. The types of the part's state, block by block, in the manual's names. -/

namespace Sys2Proof.Machine

/-! ## Shapes shared by the blocks -/

/-- One value per segment port. -/
structure Four (α : Type) where
  s0 : α
  s1 : α
  s2 : α
  s3 : α
  deriving DecidableEq, Repr

/-- One value per sync entry. -/
structure Three (α : Type) where
  e0 : α
  e1 : α
  e2 : α
  deriving DecidableEq, Repr

/-- A timer: stopped, or running with the milliseconds left. -/
inductive Timer where
  | stopped
  | running (left : Nat)
  deriving DecidableEq, Repr

/-- Where a frame came from (chapter 0, Origin). -/
inductive Origin where
  | segment (i : SegIx)
  | uplink
  deriving DecidableEq, Repr

/-! ## Segment ports (R18) -/

/-- Segment states (R18). -/
inductive SegState where
  | disabled | settling | forwarding | isolated | testing | parked
  deriving DecidableEq, Repr

/-- Relay positions (R18). -/
inductive Relay where
  | transceiver | park
  deriving DecidableEq, Repr

/-- Park load policies (R21). -/
inductive ParkPolicy where
  | retain | nominal | noLoad
  deriving DecidableEq, Repr

/-- The three fault conditions (R41). -/
inductive Condition where
  | jabber | txBlocked | health
  deriving DecidableEq, Repr

/-- Isolation reasons (R18): a fault condition, or REQUESTED. -/
inductive IsoReason where
  | fault (c : Condition)
  | requested
  deriving DecidableEq, Repr

/-- Causes of a SEGMENT_STATE notice (R23). -/
inductive StateCause where
  | request | settleExpiry | supervisor | tester
  deriving DecidableEq, Repr

/-- The six-byte header of a trunk frame (R3). -/
structure Header where
  dst : Byte
  src : Byte
  typ : Byte
  ctl : Byte
  len : Half
  deriving DecidableEq, Repr

/-- A trunk frame as a receiver or the uplink hands it on: header and payload, no CRC. -/
structure Frame where
  header : Header
  payload : List Byte
  deriving DecidableEq, Repr

/-- The payload source of a queue entry (R34). A stored frame is named by its first page. -/
inductive PayloadSource where
  | stored (frame : Nat)
  | span (page offset count : Nat)
  | nothing
  deriving DecidableEq, Repr

/-- A queue entry (R34, R118): its payload source, its header, and a sync set on a segment or a destination
MAC on the uplink. -/
structure QEntry (δ : Type) where
  source : PayloadSource
  header : Header
  dest : δ
  deriving DecidableEq, Repr

/-- A sync set: bit i stands for sync entry i (R34). -/
abbrev SyncSet := BitVec 3

/-- What the transmitter is doing with the copy in hand: waiting for quiet (R37), sending the line frame whose bytes are
given, preamble and sync word included (R37, R181), or waiting out the chosen backoff slots (R38). -/
inductive TxPhase where
  | deferring
  | sending (frame : List Byte)
  | backoff (slots : Nat)
  deriving DecidableEq, Repr

/-- The entry being transmitted (R18, R36): the queue whose head it is, the copies still to go with the one in
hand first, its attempt number, the sync pattern fixed at its first attempt, and the phase. -/
structure Current where
  service : Bool
  copies : List SyncIx
  attempt : Nat
  pattern : Option SyncWord
  phase : TxPhase
  deriving DecidableEq, Repr

/-- What came of the sync word of a reception (R8). -/
inductive SyncOutcome where
  | awaited
  | rejected
  | accepted (index : SyncIx) (mismatches : Nat)
  deriving DecidableEq, Repr

/-- A reception in progress (R2, R10): its sync word, whether a collision was detected in it before any jabber
mark, and whether the jabber mark came first. -/
structure Reception where
  sync : SyncOutcome
  collided : Bool
  jabberCut : Bool
  deriving DecidableEq, Repr

/-- A segment's receiver. `lineCarrier` is the stations' carrier on the cable, which stands there whether or not
the relay lets the receiver hear it (R15); `collisionSeen` says the collision of this stretch has been met
(R11; log entry 25); `marked` that the jabber mark was reached (R12); `carrierTimer` runs toward that mark. -/
structure Receiver where
  lineCarrier : Bool
  collisionSeen : Bool
  marked : Bool
  carrierTimer : Timer
  reception : Option Reception
  deriving DecidableEq, Repr

/-- Receive counters (R17). -/
structure RxCounters where
  framesIn : Counter
  marginal : Counter
  corrupt : Counter
  collisions : Counter
  unsynced : Counter
  jabber : Counter
  deriving DecidableEq, Repr

/-- Transmit counters (R40). -/
structure TxCounters where
  framesOut : Counter
  excess : Counter
  flushed : Counter
  serviceFull : Counter
  deriving DecidableEq, Repr

/-- Forwarding counters of a port (R115). -/
structure FwdCounters where
  filtered : Counter
  unreachable : Counter
  unwanted : Counter
  directPrint : Counter
  noBuffer : Counter
  tailDrop : Counter
  addressViolation : Counter
  answered : Counter
  deriving DecidableEq, Repr

/-- A segment port (R18) with its receiver and its port counters. `jam` is the 32-bit jam that ended the latest attempt, none when
that met no collision (R38; log entry 45). -/
structure Port where
  state : SegState
  relay : Relay
  trim : LoadCode
  lineCode : LoadCode
  policy : ParkPolicy
  settleTime : Nat
  settleTimer : Timer
  reason : Option IsoReason
  service : List (QEntry SyncSet)
  transit : List (QEntry SyncSet)
  current : Option Current
  jam : Option (BitVec 32)
  receiver : Receiver
  rx : RxCounters
  tx : TxCounters
  fwd : FwdCounters
  deriving DecidableEq, Repr

/-- A sync entry (R7). -/
structure SyncEntry where
  pattern : SyncWord
  tolerance : Nat
  enabled : Bool
  deriving DecidableEq, Repr

/-! ## Line Supervisor (R41) -/

/-- A set of fault conditions: the live conditions, the latched flags, the isolate set. -/
structure CondSet where
  jabber : Bool
  txBlocked : Bool
  health : Bool
  deriving DecidableEq, Repr

/-- The five window counts (R13, R41). -/
structure WindowCounts where
  g : Nat
  m : Nat
  c : Nat
  k : Nat
  j : Nat
  deriving DecidableEq, Repr

/-- Kinds of fault record (R59). -/
inductive FaultKind where
  | condition (c : Condition)
  | requested
  | openLine
  | shortLine
  deriving DecidableEq, Repr

/-- A fault record (R59). -/
structure FaultRecord where
  seq : Half
  time : Counter
  kind : FaultKind
  health : Nat
  distance : Option Nat
  deriving DecidableEq, Repr

/-- Supervision settings (R42). -/
structure SupSettings where
  window : Nat
  shift : Nat
  high : Nat
  low : Nat
  strikes : Nat
  rejoinWindows : Nat
  maskWindows : Nat
  isolateSet : CondSet
  autoIsolate : Bool
  autoRejoin : Bool
  autoTest : Bool
  flapLimit : Nat
  vf : Nat
  deriving DecidableEq, Repr

/-- A supervision context (R41). `windowState` is the supervised state the window in progress runs in, under which
its expiry is judged (R43). `history` is newest first. -/
structure Supervision where
  counts : WindowCounts
  windowTimer : Timer
  windowState : SegState
  lastE : Option Nat
  health : Nat
  strikes : Nat
  rejoins : Nat
  mask : Nat
  live : CondSet
  latched : CondSet
  flaps : Nat
  flapTimer : Timer
  history : List FaultRecord
  nextSeq : Half
  settings : SupSettings
  deriving DecidableEq, Repr

/-! ## Line Tester (R65, R66) -/

/-- What started a test (R65). -/
inductive TestCause where
  | request | automatic
  deriving DecidableEq, Repr

/-- Stages of a test (R65). -/
inductive TestStage where
  | quietCheck | ranging | trim
  deriving DecidableEq, Repr

/-- Echo kinds (R73). -/
inductive EchoKind where
  | openEnd | shortEnd | mismatch | noEcho
  deriving DecidableEq, Repr

/-- Test outcomes (R78). -/
inductive TestOutcome where
  | clean | openEnd | shortEnd | lineBusy | aborted
  deriving DecidableEq, Repr

/-- An echo capture (R74). -/
structure Capture where
  t : Nat
  kind : EchoKind
  vf : Nat
  distance : Nat
  time : Counter
  deriving DecidableEq, Repr

/-- The test context (R65). `parkedBefore` says the resume state is PARKED; `wait` is the 10 ms wait of R71 and
R72, and `raiseAfterWait` that the attempt number rises when it ends (R71), not before it (R72). -/
structure TestContext where
  segment : SegIx
  cause : TestCause
  stage : TestStage
  attempts : Nat
  trimRequested : Bool
  accepted : LoadCode
  bit : Nat
  prior : LoadCode
  parkedBefore : Bool
  rangingDone : Bool
  wait : Timer
  raiseAfterWait : Bool
  deriving DecidableEq, Repr

/-- A segment's two captures (R66). -/
structure Captures where
  current : Option Capture
  previous : Option Capture
  deriving DecidableEq, Repr

/-- The Line Tester: free, or busy with one context; pending flags; captures (R65, R66). -/
structure Tester where
  context : Option TestContext
  pendingFlags : Four Bool
  captures : Four Captures
  deriving DecidableEq, Repr

/-! ## Station Table (R84, R91, R98, R101, R102) -/

/-- One side of a station entry (R84). -/
structure Side where
  segment : SegIx
  silence : Nat
  sync : SyncIx
  deriving DecidableEq, Repr

/-- The state of a station entry with the sides it holds (R84). -/
inductive Known where
  | empty
  | active (first : Side)
  | quiet (first : Side)
  | duplicate (first second : Side)
  deriving DecidableEq, Repr

/-- A station entry (R84). The pinned segment of a pinned entry is its first side's. -/
structure Station where
  known : Known
  pinned : Bool
  held : Bool
  violation : Bool
  deriving DecidableEq, Repr

/-- An alias entry in use (R98). -/
structure AliasEntry where
  number : Byte
  mac : Mac
  deriving DecidableEq, Repr

/-- The Station Table. `entries` lists, by rising number, the entries that differ from the empty one; `aliases`
lists, by rising index, the alias entries in use; the two quads are the violation flags of 0 and 255. -/
structure StationTable where
  entries : List (Nat × Station)
  flags0 : Four Bool
  flags255 : Four Bool
  aliases : List (Nat × AliasEntry)
  gateway : Byte
  proxyBase : Mac
  agingUnit : Nat
  moveHold : Nat
  agingTimer : Timer
  deriving DecidableEq, Repr

/-! ## Uplink Port (R116, R122) -/

/-- The uplink's own counters (R122). -/
structure UplinkCounters where
  framesIn : Counter
  framesOut : Counter
  corrupt : Counter
  foreign : Counter
  badTunnel : Counter
  unknownSender : Counter
  sendFailures : Counter
  flushed : Counter
  serviceFull : Counter
  deriving DecidableEq, Repr

/-- The uplink's current entry: the queue whose head it is and the tunnel frame built from it, FCS included (R119). -/
structure UplinkCurrent where
  service : Bool
  frame : List Byte
  deriving DecidableEq, Repr

/-- The Uplink Port (R116). -/
structure Uplink where
  up : Bool
  etherType : Half
  broadcast : Bool
  service : List (QEntry Mac)
  transit : List (QEntry Mac)
  current : Option UplinkCurrent
  counters : UplinkCounters
  fwd : FwdCounters
  deriving DecidableEq, Repr

/-! ## Page Pool (R123) -/

/-- A frame record: its pages in order and its reference count (R123). -/
structure FrameRecord where
  pages : List Nat
  refs : Nat
  deriving DecidableEq, Repr

/-- The Page Pool (R123). `mem` is the pool memory, byte `offset` of page `p` at address 256 p + offset. `frames` lists
the frame records by their first page, rising. The owner of a page is read from the frame records and the job chains. -/
structure Pool where
  mem : List Host.Cell
  frames : List (Nat × FrameRecord)
  reserve : Nat
  quota : Nat
  lowestFree : Nat
  reserveRefusals : Counter
  quotaRefusals : Counter
  deriving DecidableEq, Repr

/-! ## Print Intake (R132, R133, R148) -/

/-- Delivery states (R133). -/
inductive DeliveryState where
  | waiting | queued | printing | held | ending
  deriving DecidableEq, Repr

/-- Job outcomes (R143). -/
inductive JobOutcome where
  | printed | unconfirmed | abandoned | cancelled | failed
  deriving DecidableEq, Repr

/-- A job record (R133). `isOpen` is the intake state OPEN. `group` is absent once the group has been cleared, and
`service` keeps its service number (R166). -/
structure Job where
  number : Half
  source : Byte
  origin : Origin
  group : Option Nat
  service : Byte
  urgent : Bool
  isOpen : Bool
  lastSeq : BlockSeq
  lastFirst : Bool
  expected : BlockSeq
  received : Nat
  chain : List Nat
  lastActivity : Counter
  idleTimer : Timer
  pendingOutcome : Option JobOutcome
  delivery : DeliveryState
  delivered : Nat
  printer : Option Nat
  printerSeq : BlockSeq
  blockOffered : Bool
  activeTime : Nat
  deriving DecidableEq, Repr

/-- The intake counters (R148). -/
structure IntakeCounters where
  stored : Counter
  resends : Counter
  retries : Counter
  refused : Counter
  ignored : Counter
  answersLost : Counter
  deriving DecidableEq, Repr

/-- Print Intake (R132). `jobs` keeps the order in which the jobs were opened. -/
structure Intake where
  jobs : List Job
  nextNumber : Half
  idleTime : Nat
  counters : IntakeCounters
  deriving DecidableEq, Repr

/-! ## Printer Delivery (R149, R152) -/

/-- Pause reasons of a printer (R149). -/
structure PauseSet where
  offline : Bool
  paperOut : Bool
  noResponse : Bool
  noEnd : Bool
  held : Bool
  stopped : Bool
  deriving DecidableEq, Repr

/-- Printer states (R149). -/
inductive PrinterState where
  | absent | unreachable | paused | busy | ready
  deriving DecidableEq, Repr

/-- Unreachable reasons (R103). -/
inductive UnreachReason where
  | notHeard | segmentDown | conflict | uplinkDown
  deriving DecidableEq, Repr

/-- A block in flight (R149): its job, sequence, control flags, byte count and page, and whether it is outstanding (else
in retry wait). -/
structure Flight where
  job : Half
  seq : BlockSeq
  first : Bool
  last : Bool
  urgent : Bool
  count : Nat
  page : Option Nat
  outstanding : Bool
  deriving DecidableEq, Repr

/-- A printer entry in use (R149). `found`, `foundReason` and `foundPause` are what the last evaluation found (R151). -/
structure Printer where
  station : Byte
  nominalRate : Nat
  rate : Nat
  blockTimeout : Nat
  endTimeout : Nat
  stopAfter : Bool
  pause : PauseSet
  queue : List Half
  nextSeq : BlockSeq
  flight : Option Flight
  resends : Nat
  blockTimer : Timer
  retryTimer : Timer
  endTimer : Timer
  found : PrinterState
  foundReason : Option UnreachReason
  foundPause : PauseSet
  deriving DecidableEq, Repr

/-- A group entry in use (R152). Its wait list is read from the job table (R153). -/
structure Group where
  service : Byte
  balanced : Bool
  threshold : Nat
  members : List Nat
  rebind : Bool
  deriving DecidableEq, Repr

/-- Printer Delivery: the printer entries and the group entries in use, by rising number. -/
structure Delivery where
  printers : List (Nat × Printer)
  groups : List (Nat × Group)
  deriving DecidableEq, Repr

/-! ## Management Port (R168 to R179) -/

/-- Status values (R173, R184). -/
inductive Status where
  | ok | accepted | busy | state | range | notFound | full | conflict | format | sequence
  deriving DecidableEq, Repr

/-- A message on the management line (R183); its length field is the body's length. -/
structure Msg where
  kind : Byte
  code : Byte
  tag : Byte
  body : List Byte
  deriving DecidableEq, Repr

/-- Causes in notices. -/
inductive ResetCause where
  | pinOrPower | request
  deriving DecidableEq, Repr

inductive ViolationKind where
  | invalid | gateway | service | aliasNumber | pinned
  deriving DecidableEq, Repr

/-- The fields of a TEST_RESULT notice (R82). -/
structure TestReport where
  segment : SegIx
  cause : TestCause
  outcome : TestOutcome
  attempts : Nat
  trimRequested : Bool
  ranging : Option Capture
  previous : Option Capture
  trim : Option (LoadCode × LoadCode × Bool)
  deriving DecidableEq, Repr

/-- The fields of a JOB_DONE notice (R145). -/
structure JobReport where
  number : Half
  outcome : JobOutcome
  source : Byte
  origin : Origin
  service : Byte
  urgent : Bool
  received : Nat
  delivered : Nat
  printer : Option (Nat × Byte)
  deriving DecidableEq, Repr

/-- The notices (chapter 10, 10.6), each with the fields its rule gives it. -/
inductive Notice where
  | started (cause : ResetCause) (rate : Nat)
  | segmentState (seg : SegIx) (old new : SegState) (reason : Option IsoReason) (relay : Relay) (lineCode : LoadCode) (cause : StateCause)
  | fault (seg : SegIx) (record : FaultRecord)
  | testResult (report : TestReport)
  | stationArrived (number : Byte) (seg : SegIx) (sync : SyncIx)
  | stationDeparted (number : Byte) (seg : SegIx) (second : Option SegIx) (forgotten : Bool)
  | stationMoved (number : Byte) (src dst : SegIx) (pinned : Bool)
  | stationConflict (number : Byte) (first second : SegIx) (replaced : Bool)
  | conflictCleared (number : Byte) (kept : SegIx) (pinned : Bool)
  | addressViolation (number : Byte) (seg : SegIx) (kind : ViolationKind) (pinnedTo : Option SegIx)
  | uplinkState (up : Bool)
  | printerState (printer : Nat) (station : Byte) (old new : PrinterState) (reason : Option UnreachReason) (pause : PauseSet)
  | jobDone (report : JobReport)
  deriving DecidableEq, Repr

/-- What the management transmitter is sending (R172). -/
inductive Outgoing where
  | reply
  | refusal
  | notice (n : Notice)
  deriving DecidableEq, Repr

/-- The management receiver (R169): whether it still waits for the first delimiter after a reset, the receive buffer,
an escape byte just taken, and whether the message is already undecodable. -/
structure RxBuffer where
  hunting : Bool
  content : List Byte
  escaped : Bool
  bad : Bool
  deriving DecidableEq, Repr

/-- The Management Port (R168 to R179). `rate` is the rate the straps selected at the last reset. `refusalOlder` says
the refusal slot was filled before the reply slot (R172). `opening` says that the message being sent, or the next, starts after
the line has been idle, with a delimiter of its own before it (R169). `resetTaken` says the reply in the slot is RESET's
(R179). -/
structure Mgmt where
  rate : Nat
  rx : RxBuffer
  reply : Option Msg
  refusal : Option Msg
  refusalOlder : Bool
  sending : Option Outgoing
  opening : Bool
  notices : List Notice
  enabled : Half
  lost : Bool
  resetTaken : Bool
  pinHeld : Bool
  deriving DecidableEq, Repr

/-- The Time Base (R178): the seconds counter and the ticks since its last step. -/
structure TimeBase where
  seconds : Counter
  millis : Nat
  deriving DecidableEq, Repr

/-! ## Events on their way between blocks -/

/-- What one block has passed to another that the other takes as an event of its own (R23, R28, R29, R54, R55, R68,
R104, R117, R138, R144), named by what its command will do. An isolation order and its result carry `test`, the auto-test
setting in force at the latch that ordered it (R42). -/
inductive Raised where
  | isolationOrder (seg : SegIx) (c : Condition) (test : Bool)
  | rejoinOrder (seg : SegIx)
  | orderResult (seg : SegIx) (taken : Bool) (c : Condition) (test : Bool)
  | stateEntry (seg : SegIx) (src dst : SegState) (reason : Option IsoReason)
  | leftIsolated (seg : SegIx)
  | autoTest (seg : SegIx)
  | jobChange (job : Half) (group : Option Nat)
  | stationChange (number : Byte)
  | segmentChange (seg : SegIx)
  | uplinkChange
  | jobEnded (printer : Nat)
  deriving DecidableEq, Repr

end Sys2Proof.Machine
end

