-- ==== Sys2Proof/Machine/Reset.lean ====
section
/-! DEFINITION. The reset value of every block, as each chapter's table gives it. -/

namespace Sys2Proof.Machine

/-- A port's receiver after reset; the cable's own carrier is not the part's to reset (log entry 13). -/
def resetReceiver (lineCarrier : Bool) : Receiver :=
  { lineCarrier := lineCarrier, collisionSeen := false, marked := false, carrierTimer := .stopped, reception := none }

/-- A segment port after either reset (R17, R18, R40, R115). -/
def resetPort (lineCarrier : Bool) : Port :=
  { state := .disabled, relay := .park, trim := 48, lineCode := 48, policy := .nominal, settleTime := 20,
    settleTimer := .stopped, reason := none, service := [], transit := [], current := none, jam := none,
    receiver := resetReceiver lineCarrier,
    rx := ⟨0, 0, 0, 0, 0, 0⟩, tx := ⟨0, 0, 0, 0⟩, fwd := ⟨0, 0, 0, 0, 0, 0, 0, 0⟩ }

/-- The sync entries after either reset (R7). -/
def resetSyncs : Three SyncEntry :=
  { e0 := ⟨0x6B1D59, 2, true⟩, e1 := ⟨0x4E72A3, 2, false⟩, e2 := ⟨0x19C6E5, 2, false⟩ }

/-- The defaults of the supervision settings (R42). -/
def defaultSettings : SupSettings :=
  { window := 10, shift := 2, high := 512, low := 128, strikes := 3, rejoinWindows := 5, maskWindows := 1,
    isolateSet := ⟨true, true, true⟩, autoIsolate := true, autoRejoin := true, autoTest := false, flapLimit := 3, vf := 660 }

/-- A supervision context after either reset (R41). -/
def resetSupervision : Supervision :=
  { counts := ⟨0, 0, 0, 0, 0⟩, windowTimer := .stopped, windowState := .disabled, lastE := none, health := 0, strikes := 0,
    rejoins := 0, mask := 0, live := ⟨false, false, false⟩, latched := ⟨false, false, false⟩, flaps := 0,
    flapTimer := .stopped, history := [], nextSeq := 0, settings := defaultSettings }

/-- The Line Tester after either reset: free, no flag, no capture (R65, R66). -/
def resetTester : Tester :=
  { context := none, pendingFlags := ⟨false, false, false, false⟩,
    captures := ⟨⟨none, none⟩, ⟨none, none⟩, ⟨none, none⟩, ⟨none, none⟩⟩ }

/-- The Station Table after either reset (R84, R91, R98, R101, R102). -/
def resetTable : StationTable :=
  { entries := [], flags0 := ⟨false, false, false, false⟩, flags255 := ⟨false, false, false, false⟩, aliases := [],
    gateway := 253, proxyBase := 0x0A3170000000, agingUnit := 10, moveHold := 3, agingTimer := .running 10000 }

/-- The Uplink Port after either reset (R115, R116, R122). -/
def resetUplink : Uplink :=
  { up := false, etherType := 0x9A2C, broadcast := false, service := [], transit := [], current := none,
    counters := ⟨0, 0, 0, 0, 0, 0, 0, 0, 0⟩, fwd := ⟨0, 0, 0, 0, 0, 0, 0, 0⟩ }

/-- The Page Pool after either reset (R123). -/
def resetPool : Pool :=
  { mem := [], frames := [], reserve := 128, quota := 64, lowestFree := 1024, reserveRefusals := 0, quotaRefusals := 0 }

/-- Print Intake after either reset (R132, R148). -/
def resetIntake : Intake :=
  { jobs := [], nextNumber := 1, idleTime := 60, counters := ⟨0, 0, 0, 0, 0, 0⟩ }

/-- Printer Delivery after either reset: every entry unused (R149). -/
def resetDelivery : Delivery := { printers := [], groups := [] }

/-- The line rate the two straps select (R168). -/
def strapRate (strap1 strap2 : Bool) : Nat :=
  match strap1, strap2 with
  | false, false => 115200
  | true, false => 230400
  | false, true => 460800
  | true, true => 921600

/-- The Management Port after a reset (R169, R176, R177, R178). The queued STARTED notice is the one message there is, so
the idle transmitter has begun it (R172, log entry 12). -/
def resetMgmt (cause : ResetCause) (strap1 strap2 : Bool) : Mgmt :=
  { rate := strapRate strap1 strap2, rx := ⟨true, [], false, false⟩, reply := none, refusal := none, refusalOlder := false,
    sending := some (.notice (.started cause (strapRate strap1 strap2))), opening := true, notices := [], enabled := 0x1FFF, lost := false,
    resetTaken := false, pinHeld := false }

/-- The Time Base after a reset (R178). -/
def resetTime : TimeBase := { seconds := 0, millis := 0 }

end Sys2Proof.Machine
end

