-- ==== Sys2Proof/Machine/State.lean ====
section
/-! DEFINITION. The machine's state, its reset, and its (empty) reasons to stop. -/

namespace Sys2Proof.Machine

/-- The state of the HJK-420: its blocks, the events on their way between them (`raised`), the queue of commands that
wait (`pending`), and the count of free values drawn so far (`draws`, log entry 32). -/
structure State where
  pending : List Instr
  raised : List Raised
  draws : Nat
  ports : Four Port
  syncs : Three SyncEntry
  sups : Four Supervision
  tester : Tester
  table : StationTable
  uplink : Uplink
  pool : Pool
  intake : Intake
  delivery : Delivery
  mgmt : Mgmt
  time : TimeBase
  deriving DecidableEq, Repr

/-- Reasons the machine could stop with a fault: none. No rule of the manual stops the part, and every value of every
command has a next state. -/
inductive Fault : Type where
  deriving DecidableEq, Repr

/-- Reasons a command could have no meaning. -/
inductive Refusal where
  /-- Raised by an arm of exec whose command has no meaning yet; no arm raises it. Safe: the machine stops. -/
  | notModelled (mnemonic : String)
  deriving DecidableEq, Repr

/-- The machine right after a pin or power-up reset with both straps low (R178; straps: log entry 11) and no carrier on
any cable (log entry 13). -/
def State.reset : State :=
  { pending := [], raised := [], draws := 0,
    ports := ⟨resetPort false, resetPort false, resetPort false, resetPort false⟩,
    syncs := resetSyncs,
    sups := ⟨resetSupervision, resetSupervision, resetSupervision, resetSupervision⟩,
    tester := resetTester, table := resetTable, uplink := resetUplink, pool := resetPool, intake := resetIntake,
    delivery := resetDelivery, mgmt := resetMgmt .pinOrPower false false, time := resetTime }

end Sys2Proof.Machine
end

