-- ==== Sys2Proof/Machine/Ops.lean ====
section
/-! DEFINITION. The shared operations over the state's shapes: per-port values, tables keyed by number, timers, the
pool memory, the notice queue, and the events raised between blocks. -/

namespace Sys2Proof.Machine

/-! ## One value per segment, per sync entry -/

/-- The value of segment `i`. -/
def Four.get {α : Type} (v : Four α) (i : SegIx) : α :=
  match i with
  | 0 => v.s0
  | 1 => v.s1
  | 2 => v.s2
  | 3 => v.s3

/-- Replace the value of segment `i`. -/
def Four.set {α : Type} (v : Four α) (i : SegIx) (a : α) : Four α :=
  match i with
  | 0 => { v with s0 := a }
  | 1 => { v with s1 := a }
  | 2 => { v with s2 := a }
  | 3 => { v with s3 := a }

/-- Apply one function to all four. -/
def Four.map {α β : Type} (f : α → β) (v : Four α) : Four β := ⟨f v.s0, f v.s1, f v.s2, f v.s3⟩

/-- The segments in ascending order. -/
def segments : List SegIx := [0, 1, 2, 3]

/-- The value of sync entry `i`. -/
def Three.get {α : Type} (v : Three α) (i : SyncIx) : α :=
  match i with
  | 0 => v.e0
  | 1 => v.e1
  | 2 => v.e2

/-- Replace the value of sync entry `i`. -/
def Three.set {α : Type} (v : Three α) (i : SyncIx) (a : α) : Three α :=
  match i with
  | 0 => { v with e0 := a }
  | 1 => { v with e1 := a }
  | 2 => { v with e2 := a }

/-! ## Tables keyed by number, kept in rising order -/

/-- The entry of number `k`, if the table lists one. -/
def tableGet {β : Type} (t : List (Nat × β)) (k : Nat) : Option β := t.lookup k

/-- List `v` as the entry of number `k`, in its place. -/
def tablePut {β : Type} (t : List (Nat × β)) (k : Nat) (v : β) : List (Nat × β) :=
  t.filter (fun e => e.1 < k) ++ (k, v) :: t.filter (fun e => k < e.1)

/-- Unlist the entry of number `k`. -/
def tableDrop {β : Type} (t : List (Nat × β)) (k : Nat) : List (Nat × β) := t.filter (fun e => e.1 ≠ k)

/-! ## Timers -/

/-- One millisecond off a running timer; at 0 it waits for its expiry command (log entry 1). -/
def Timer.tick : Timer → Timer
  | .stopped => .stopped
  | .running left => .running (left - 1)

/-- Whether a timer runs. -/
def Timer.isRunning : Timer → Bool
  | .stopped => false
  | .running _ => true

/-! ## The pool memory (R123, R124) -/

/-- What a pool byte reads as that nothing has written (log entry 10). -/
def unwrittenByte : Byte := 0

/-- Read one byte of the pool memory. -/
def memRead (m : List Host.Cell) (a : Nat) : Byte := (m.lookup a).getD unwrittenByte

/-- The cells of bytes written from address `a` on, without those that an unlisted address reads as anyway. -/
def memCells (a : Nat) : List Byte → List Host.Cell
  | [] => []
  | b :: bs => if b = unwrittenByte then memCells (a + 1) bs else (a, b) :: memCells (a + 1) bs

/-- Write bytes from address `a` on. -/
def memWrite (m : List Host.Cell) (a : Nat) (bs : List Byte) : List Host.Cell :=
  m.filter (fun c => c.1 < a) ++ memCells a bs ++ m.filter (fun c => a + bs.length ≤ c.1)

/-- The canonical form of the pool memory: addresses strictly rising, and no cell that an unlisted address equals. -/
def memWf : List Host.Cell → Bool
  | [] => true
  | [c] => decide (c.2 ≠ unwrittenByte)
  | c :: d :: rest => decide (c.2 ≠ unwrittenByte) && decide (c.1 < d.1) && memWf (d :: rest)

/-- The bytes `count` long from offset `offset` of page `page` (R34). -/
def pageRead (m : List Host.Cell) (page offset count : Nat) : List Byte :=
  (List.range count).map fun i => memRead m (256 * page + offset + i)

/-- Write a stream of bytes over the pages given, from `offset` of the first page on (R124). -/
def streamWrite (m : List Host.Cell) : List Nat → Nat → List Byte → List Host.Cell
  | [], _, _ => m
  | p :: ps, offset, bs =>
    streamWrite (memWrite m (256 * p + offset) (bs.take (256 - offset))) ps 0 (bs.drop (256 - offset))

/-- Byte `i` of a stream laid over pages: offset i mod 256 of the page at position floor(i / 256) (R124). -/
def streamByte (m : List Host.Cell) (pages : List Nat) (i : Nat) : Byte :=
  memRead m (256 * (pages[i / 256]?).getD 0 + i % 256)

/-- Bytes `start` to `start + count - 1` of a stream laid over pages. -/
def streamRead (m : List Host.Cell) (pages : List Nat) (start count : Nat) : List Byte :=
  (List.range count).map fun i => streamByte m pages (start + i)

/-! ## State updates -/

/-- Segment port `i`. -/
def State.port (s : State) (i : SegIx) : Port := s.ports.get i

/-- Replace segment port `i`. -/
def State.setPort (s : State) (i : SegIx) (p : Port) : State := { s with ports := s.ports.set i p }

/-- The supervision context of segment `i`. -/
def State.sup (s : State) (i : SegIx) : Supervision := s.sups.get i

/-- Replace the supervision context of segment `i`. -/
def State.setSup (s : State) (i : SegIx) (c : Supervision) : State := { s with sups := s.sups.set i c }

/-- Raise an event for another block to take as its own. -/
def State.raise (s : State) (r : Raised) : State := { s with raised := s.raised ++ [r] }

/-- Draw the next free value's index (log entry 32). -/
def State.draw (s : State) : State := { s with draws := s.draws + 1 }

/-- The oldest raised event that `f` recognises, and the others. -/
def takeRaised {α : Type} (f : Raised → Option α) : List Raised → Option (α × List Raised)
  | [] => none
  | r :: rs =>
    match f r with
    | some a => some (a, rs)
    | none =>
      match takeRaised f rs with
      | some (a, rest) => some (a, r :: rest)
      | none => none

/-- Take the oldest raised event that `f` recognises as the event of this command; where there is none, the event does
not arise and nothing changes (log entries 2, 5). -/
def State.take {α : Type} (s : State) (f : Raised → Option α) (act : α → State → State) : State :=
  match takeRaised f s.raised with
  | some (a, rest) => act a { s with raised := rest }
  | none => s

/-! ## Notices (R176) -/

/-- The place of a notice's kind in the code run from 0xC0 (R184). -/
def Notice.index : Notice → Nat
  | .started .. => 0
  | .segmentState .. => 1
  | .fault .. => 2
  | .testResult .. => 3
  | .stationArrived .. => 4
  | .stationDeparted .. => 5
  | .stationMoved .. => 6
  | .stationConflict .. => 7
  | .conflictCleared .. => 8
  | .addressViolation .. => 9
  | .uplinkState .. => 10
  | .printerState .. => 11
  | .jobDone .. => 12

/-- Entries the notice queue holds (R176). -/
def noticeCapacity : Nat := 32

/-- Pass a notice to the Management Port: not queued when its kind is disabled, queued when there is room, discarded with
the notices-lost flag set otherwise (R176). -/
def State.notify (s : State) (n : Notice) : State :=
  if s.mgmt.enabled.getLsbD n.index then
    if s.mgmt.notices.length < noticeCapacity then
      { s with mgmt := { s.mgmt with notices := s.mgmt.notices ++ [n] } }
    else { s with mgmt := { s.mgmt with lost := true } }
  else s

/-- The management transmitter, when idle, takes the next message to send: an answer, the one filled first when both slots
hold one, and otherwise the head of the notice queue (R172). With nothing to take the line is idle, and the next message opens
with a delimiter (R169). Nothing is sent while the reset pin is held (R178). -/
def Mgmt.takeNext (m : Mgmt) : Mgmt :=
  if m.pinHeld || m.sending.isSome then m
  else if m.refusal.isSome && (m.refusalOlder || m.reply.isNone) then { m with sending := some .refusal }
  else if m.reply.isSome then { m with sending := some .reply }
  else
    match m.notices with
    | n :: rest => { m with sending := some (.notice n), notices := rest }
    | [] => { m with opening := true }

/-- The close of every command: the management transmitter takes its next message if it is idle (R172). It takes at this moment
and at no other, so notices passed in one command are queued, and lost, before the first of them is sent (log entry 44). -/
def State.settle (s : State) : State := { s with mgmt := s.mgmt.takeNext }

/-- The outcome of a command that ends in state `s`. -/
def State.done (s : State) : Host.Outcome State Fault Refusal := .next s.settle

end Sys2Proof.Machine
end

