-- ==== Sys2Proof/Machine/Operands.lean ====
section
/-! DEFINITION. The byte values of fields and enumerations (R180, R184, R188), the layouts of the trunk frame (R181), the
tunnel frame's parts (R182) and the management message (R169, R183), and the reading of request operands (R170). -/

namespace Sys2Proof.Machine

/-! ## Whole numbers, most significant byte first (R180) -/

/-- A one-byte number. -/
def nat1 (n : Nat) : List Byte := [BitVec.ofNat 8 n]

/-- A two-byte number. -/
def nat2 (n : Nat) : List Byte := [BitVec.ofNat 8 (n / 256), BitVec.ofNat 8 n]

/-- A four-byte number. -/
def nat4 (n : Nat) : List Byte :=
  [BitVec.ofNat 8 (n / 16777216), BitVec.ofNat 8 (n / 65536), BitVec.ofNat 8 (n / 256), BitVec.ofNat 8 n]

/-- The number a list of bytes spells, first byte most significant. -/
def bytesNat (bs : List Byte) : Nat := bs.foldl (fun n b => 256 * n + b.toNat) 0

/-- A two-byte field. -/
def halfBytes (h : Half) : List Byte := nat2 h.toNat

/-- A 32-bit counter. -/
def counterBytes (c : Counter) : List Byte := nat4 c.toNat

/-- A MAC, first byte first. -/
def macBytes (m : Mac) : List Byte :=
  [m.extractLsb' 40 8, m.extractLsb' 32 8, m.extractLsb' 24 8, m.extractLsb' 16 8, m.extractLsb' 8 8, m.extractLsb' 0 8]

/-- A yes-or-no byte (R188). -/
def flagByte (b : Bool) : Byte := if b then 0x01 else 0x00

/-- All bits one: the absent value of a one-byte field that leaves it spare (R190). -/
def absentByte : Byte := 0xFF

/-- A time left, in ms in four bytes, all ones when stopped (R190). -/
def timerBytes : Timer → List Byte
  | .stopped => [0xFF, 0xFF, 0xFF, 0xFF]
  | .running left => nat4 left

/-! ## Reading request operands (R170, R188) -/

/-- A yes-or-no field; a value with no meaning answers none (R170). -/
def flagOf (b : Byte) : Option Bool := if b = 0x00 then some false else if b = 0x01 then some true else none

/-- A segment number; above 3 it names none (R18). -/
def segOf (b : Byte) : Option SegIx := if h : b.toNat < 4 then some ⟨b.toNat, h⟩ else none

/-- A sync entry index; above 2 it names none (R7). -/
def syncOf (b : Byte) : Option SyncIx := if h : b.toNat < 3 then some ⟨b.toNat, h⟩ else none

/-- A park load policy (R188). -/
def policyOf (b : Byte) : Option ParkPolicy :=
  if b = 0x01 then some .retain else if b = 0x02 then some .nominal else if b = 0x03 then some .noLoad else none

/-- A set of fault conditions; a bit no member uses has no meaning (R170, R188). -/
def condSetOf (b : Byte) : Option CondSet :=
  if b.toNat < 8 then some ⟨b.getLsbD 0, b.getLsbD 1, b.getLsbD 2⟩ else none

/-- A group mode: whether it is BALANCED (R188). -/
def modeOf (b : Byte) : Option Bool := if b = 0x01 then some false else if b = 0x02 then some true else none

/-- A station number 1 to 254. -/
def isStationNumber (b : Byte) : Bool := b ≠ 0 && b ≠ 255

/-- Replace a value outside a range by the nearer end (chapter 0, clamped). -/
def clamp (lo hi n : Nat) : Nat := if n < lo then lo else if hi < n then hi else n

/-! ## Enumerations (R184, R185, R186, R187, R188) -/

/-- Status values (R184). -/
def Status.byte : Status → Byte
  | .ok => 0x00 | .accepted => 0x01 | .busy => 0x02 | .state => 0x03 | .range => 0x04
  | .notFound => 0x05 | .full => 0x06 | .conflict => 0x07 | .format => 0x08 | .sequence => 0x09

/-- Segment states (R188). -/
def SegState.byte : SegState → Byte
  | .disabled => 0x01 | .settling => 0x02 | .forwarding => 0x03 | .isolated => 0x04 | .testing => 0x05 | .parked => 0x06

/-- Relay positions (R188). -/
def Relay.byte : Relay → Byte
  | .transceiver => 0x01 | .park => 0x02

/-- Park load policies (R188). -/
def ParkPolicy.byte : ParkPolicy → Byte
  | .retain => 0x01 | .nominal => 0x02 | .noLoad => 0x03

/-- Isolation reasons (R188). -/
def IsoReason.byte : IsoReason → Byte
  | .fault .jabber => 0x01 | .fault .txBlocked => 0x02 | .fault .health => 0x03 | .requested => 0x04

/-- SEGMENT_STATE causes (R188). -/
def StateCause.byte : StateCause → Byte
  | .request => 0x01 | .settleExpiry => 0x02 | .supervisor => 0x03 | .tester => 0x04

/-- Fault record kinds (R185). -/
def FaultKind.byte : FaultKind → Byte
  | .condition .jabber => 0x01 | .condition .txBlocked => 0x02 | .condition .health => 0x03 | .requested => 0x04
  | .openLine => 0x05 | .shortLine => 0x06

/-- Tester stages (R188). -/
def TestStage.byte : TestStage → Byte
  | .quietCheck => 0x01 | .ranging => 0x02 | .trim => 0x03

/-- Test causes (R186, R188). -/
def TestCause.byte : TestCause → Byte
  | .request => 0x01 | .automatic => 0x02

/-- Test outcomes (R186). -/
def TestOutcome.byte : TestOutcome → Byte
  | .clean => 0x01 | .openEnd => 0x02 | .shortEnd => 0x03 | .lineBusy => 0x04 | .aborted => 0x05

/-- Echo kinds (R186, R188). -/
def EchoKind.byte : EchoKind → Byte
  | .openEnd => 0x01 | .shortEnd => 0x02 | .mismatch => 0x03 | .noEcho => 0x04

/-- Job outcomes (R187). -/
def JobOutcome.byte : JobOutcome → Byte
  | .printed => 0x01 | .unconfirmed => 0x02 | .abandoned => 0x03 | .cancelled => 0x04 | .failed => 0x05

/-- Delivery states (R188). -/
def DeliveryState.byte : DeliveryState → Byte
  | .waiting => 0x01 | .queued => 0x02 | .printing => 0x03 | .held => 0x04 | .ending => 0x05

/-- Printer states (R188). -/
def PrinterState.byte : PrinterState → Byte
  | .absent => 0x01 | .unreachable => 0x02 | .paused => 0x03 | .busy => 0x04 | .ready => 0x05

/-- Unreachable reasons (R188). -/
def UnreachReason.byte : UnreachReason → Byte
  | .notHeard => 0x01 | .segmentDown => 0x02 | .conflict => 0x03 | .uplinkDown => 0x04

/-- Violation kinds (R188). -/
def ViolationKind.byte : ViolationKind → Byte
  | .invalid => 0x01 | .gateway => 0x02 | .service => 0x03 | .aliasNumber => 0x04 | .pinned => 0x05

/-- Reset causes (R188). -/
def ResetCause.byte : ResetCause → Byte
  | .pinOrPower => 0x01 | .request => 0x02

/-- A segment number as a byte. -/
def segByte (i : SegIx) : Byte := BitVec.ofNat 8 i.val

/-- An origin: 0 to 3 a segment, 4 the uplink (R187). -/
def Origin.byte : Origin → Byte
  | .segment i => segByte i
  | .uplink => 4

/-- An absent one-byte field is all ones (R190). -/
def optByte {α : Type} (f : α → Byte) : Option α → Byte
  | some a => f a
  | none => absentByte

/-! ## Trunk frames (R3, R4, R181) -/

/-- Frame types (R4). -/
def typeData : Byte := 0x01
def typePrintBlock : Byte := 0x10
def typeBlockAck : Byte := 0x11
def typePrinterStatus : Byte := 0x12
def typeJobAbort : Byte := 0x13
def typeEchoReq : Byte := 0x20
def typeEchoReply : Byte := 0x21

/-- The print types (R4). -/
def isPrintType (t : Byte) : Bool :=
  t = typePrintBlock || t = typeBlockAck || t = typePrinterStatus || t = typeJobAbort

/-- The three bytes of a sync pattern, most significant first (R180, R181). -/
def patternBytes (p : SyncWord) : List Byte := [p.extractLsb' 16 8, p.extractLsb' 8 8, p.extractLsb' 0 8]

/-- The preamble: 64 alternating bits, the first a 1 (R37, R181). -/
def preamble : List Byte := List.replicate 8 0xAA

/-- The longest payload of a trunk frame (R3). -/
def maxPayload : Nat := 512

/-- The six header bytes (R181). -/
def Header.bytes (h : Header) : List Byte := [h.dst, h.src, h.typ, h.ctl] ++ halfBytes h.len

/-- Read a header from the front of a list of bytes: the header and the rest. -/
def headerOf : List Byte → Option (Header × List Byte)
  | d :: s :: t :: c :: l1 :: l0 :: rest => some (⟨d, s, t, c, l1 ++ l0⟩, rest)
  | _ => none

/-- A header the part builds with no payload. -/
def emptyHeader (dst src typ ctl : Byte) : Header := ⟨dst, src, typ, ctl, 0⟩

/-- The control field of a PRINT_BLOCK (R181). -/
def printControl (first last urgent : Bool) (seq : BlockSeq) : Byte :=
  (BitVec.ofBool first ++ BitVec.ofBool last ++ BitVec.ofBool urgent ++ (0 : BitVec 1) : BitVec 4) ++ seq

/-- The FIRST, LAST and URGENT bits of a PRINT_BLOCK's control field (R181). -/
def ctlFirst (c : Byte) : Bool := c.getLsbD 7
def ctlLast (c : Byte) : Bool := c.getLsbD 6
def ctlUrgent (c : Byte) : Bool := c.getLsbD 5

/-- The block sequence of a PRINT_BLOCK or BLOCK_ACK control field (R181). -/
def ctlSeq (c : Byte) : BlockSeq := c.extractLsb' 0 4

/-- The status bits of a BLOCK_ACK: 0 ACCEPTED, 1 RETRY, 2 REFUSED, 3 another value (R181). -/
def ctlAck (c : Byte) : BitVec 2 := c.extractLsb' 4 2

/-- The control field of a BLOCK_ACK the part builds (R181). -/
def ackControl (status : BitVec 2) (seq : BlockSeq) : Byte := ((0 : BitVec 2) ++ status : BitVec 4) ++ seq

def ackAccepted : BitVec 2 := 0
def ackRetry : BitVec 2 := 1
def ackRefused : BitVec 2 := 2

/-! ## MAC addresses (R98, R102, R180) -/

/-- The broadcast MAC (R107). -/
def broadcastMac : Mac := 0xFFFFFFFFFFFF

/-- The group bit: bit 0 of the first byte (R180). -/
def macGroup (m : Mac) : Bool := m.getLsbD 40

/-- The locally administered bit: bit 1 of the first byte (R180). -/
def macLocal (m : Mac) : Bool := m.getLsbD 41

/-- The proxy address of number `n` under a proxy base (R102). -/
def proxyMac (base : Mac) (n : Byte) : Mac := (base.extractLsb' 8 40 : BitVec 40) ++ n

/-- Whether a MAC is a proxy address under a base: its first five bytes are the base's (R102). -/
def isProxy (base m : Mac) : Bool := m.extractLsb' 8 40 = base.extractLsb' 8 40

/-- The MAC that six bytes spell. -/
def macOf (bs : List Byte) : Mac := BitVec.ofNat 48 (bytesNat (bs.take 6))

/-! ## Management messages (R169, R183) -/

/-- The message kinds (R184). -/
def kindRequest : Byte := 0x01
def kindReply : Byte := 0x02
def kindNotice : Byte := 0x03

/-- The longest body of a message (chapter 10). -/
def maxBody : Nat := 300

/-- The content bytes of a message (R183). -/
def Msg.content (m : Msg) : List Byte := [m.kind, m.code, m.tag] ++ nat2 m.body.length ++ m.body

/-- The delimiter and the escape byte (R169). -/
def delimiter : Byte := 0x7E
def escapeByte : Byte := 0x7D

/-- A content byte as it is sent: the delimiter and the escape byte are escaped, and no other (R169). -/
def escapeOne (b : Byte) : List Byte :=
  if b = delimiter || b = escapeByte then [escapeByte, b ^^^ 0x20] else [b]

/-- The bytes of a message between its two delimiters on the line (R169). -/
def Msg.lineBytes (m : Msg) : List Byte := m.content.flatMap escapeOne

end Sys2Proof.Machine
end

