-- ==== Sys2Proof/Machine/Flags.lean ====
section
/-! DEFINITION. The flag sets of the part (fault conditions, pause reasons, sync sets) and the arithmetic a rule gives in
numbers: window error, health figure, distance, trim resistance, drain estimate, page counts, CRC and FCS. -/

namespace Sys2Proof.Machine

/-! ## Fault conditions (R41, R53) -/

/-- Whether a condition is in the set. -/
def CondSet.get (s : CondSet) : Condition → Bool
  | .jabber => s.jabber
  | .txBlocked => s.txBlocked
  | .health => s.health

/-- Set or clear a condition. -/
def CondSet.set (s : CondSet) (c : Condition) (v : Bool) : CondSet :=
  match c with
  | .jabber => { s with jabber := v }
  | .txBlocked => { s with txBlocked := v }
  | .health => { s with health := v }

/-- No condition. -/
def CondSet.clear : CondSet := ⟨false, false, false⟩

/-- Whether no condition is in the set. -/
def CondSet.isClear (s : CondSet) : Bool := !s.jabber && !s.txBlocked && !s.health

/-- The conditions in the order in which they latch (R53). -/
def conditions : List Condition := [.jabber, .txBlocked, .health]

/-- A set of fault conditions as a byte (R188). -/
def CondSet.byte (s : CondSet) : Byte :=
  (0 : BitVec 5) ++ BitVec.ofBool s.health ++ BitVec.ofBool s.txBlocked ++ BitVec.ofBool s.jabber

/-! ## Pause reasons (R149) -/

/-- No pause reason. -/
def PauseSet.clear : PauseSet := ⟨false, false, false, false, false, false⟩

/-- Whether the set is empty. -/
def PauseSet.isClear (p : PauseSet) : Bool :=
  !p.offline && !p.paperOut && !p.noResponse && !p.noEnd && !p.held && !p.stopped

/-- Pause reasons as a byte (R188). -/
def PauseSet.byte (p : PauseSet) : Byte :=
  (0 : BitVec 2) ++ BitVec.ofBool p.stopped ++ BitVec.ofBool p.held ++ BitVec.ofBool p.noEnd ++ BitVec.ofBool p.noResponse ++
    BitVec.ofBool p.paperOut ++ BitVec.ofBool p.offline

/-! ## Sync sets and sync words (R8, R36) -/

/-- The set of one sync entry. -/
def syncOne (i : SyncIx) : SyncSet := BitVec.twoPow 3 i.val

/-- The sync indexes in ascending order. -/
def syncIndexes : List SyncIx := [0, 1, 2]

/-- The set of every enabled sync entry (R107). -/
def enabledSet (t : Three SyncEntry) : SyncSet :=
  BitVec.ofBool t.e2.enabled ++ BitVec.ofBool t.e1.enabled ++ BitVec.ofBool t.e0.enabled

/-- The number of bit positions in which two sync words differ (R8). -/
def mismatchCount (a b : SyncWord) : Nat :=
  ((List.range 24).filter fun i => (a ^^^ b).getLsbD i).length

/-- The better of two matching candidates: the fewer mismatches, the lower index on a tie (R8). -/
def betterMatch (best : Option (SyncIx × Nat)) (i : SyncIx) (e : SyncEntry) (w : SyncWord) : Option (SyncIx × Nat) :=
  let n := mismatchCount w e.pattern
  if e.enabled && n ≤ e.tolerance then
    match best with
    | none => some (i, n)
    | some (j, m) => if n < m then some (i, n) else some (j, m)
  else best

/-- Correlation of a received sync word against the enabled entries (R8). -/
def correlate (t : Three SyncEntry) (w : SyncWord) : SyncOutcome :=
  match betterMatch (betterMatch (betterMatch none 0 t.e0 w) 1 t.e1 w) 2 t.e2 w with
  | some (i, n) => .accepted i n
  | none => .rejected

/-- The send list of an entry (R36): enabled indexes stay, disabled ones become 0, an empty set gives 0 alone, ascending
and without repeats. -/
def sendList (t : Three SyncEntry) (set : SyncSet) : List SyncIx :=
  let on (i : SyncIx) : Bool := set.getLsbD i.val
  let live (i : SyncIx) : Bool := (t.get i).enabled
  syncIndexes.filter fun i =>
    if i = 0 then on 0 || (on 1 && !live 1) || (on 2 && !live 2) || set = 0 else on i && live i

/-! ## Health arithmetic (R45, R46) -/

/-- The largest value of a window count (R41). -/
def countMax : Nat := 4294967295

/-- One more, saturating (R41). -/
def countUp (n : Nat) : Nat := if n < countMax then n + 1 else n

/-- The window error ratio E (R45). -/
def windowError (w : WindowCounts) : Nat :=
  if 1 ≤ w.j then 1023
  else if w.g + w.c + w.k = 0 then 0
  else min 1023 ((1024 * (w.c + 2 * w.k) + 256 * w.m) / (w.g + w.c + w.k))

/-- floor or ceil quotients: the least whole number not below n / d. -/
def ceilDiv (n d : Nat) : Nat := (n + d - 1) / d

/-- The health figure S after a window of error E under smoothing shift k (R46). -/
def healthStep (s e k : Nat) : Nat :=
  if s ≤ e then s + ceilDiv (e - s) (2 ^ k) else s - ceilDiv (s - e) (2 ^ k)

/-! ## Line test arithmetic (R73, R75, R77) -/

/-- The echo of a probe of amplitude `probe` among the line's excursions in their order: the first in the capture window that
reaches 10% of the probe (R73). -/
def firstEcho (probe : Nat) (line : List Excursion) : Option Excursion :=
  line.find? fun e => probe ≤ 10 * e.peak && e.count ≤ 4094

/-- The kind and the echo time of a ranging probe (R73). -/
def judgeEcho (probe : Nat) (line : List Excursion) : EchoKind × Nat :=
  match firstEcho probe line with
  | none => (.noEcho, 4095)
  | some e =>
    if probe ≤ 2 * e.peak then (if e.negative then .shortEnd else .openEnd, e.count)
    else (.mismatch, e.count)

/-- The distance in decimetres (R75). -/
def echoDistance (t vf : Nat) : Nat := (t * vf * 75 + 5000) / 10000

/-- The trim resistance in tenths of an ohm, halves up; 0 for code 0, its absent value (R77, R186). -/
def trimResistance (code : LoadCode) : Nat :=
  if code = 0 then 0 else (2 * 24000 + code.toNat) / (2 * code.toNat)

/-- Whether a trim probe reads ABOVE: 2400 / trial ohms is above the line's impedance num / den (R76). -/
def trimAbove (trial : LoadCode) (ohmNum ohmDen : Nat) : Bool := ohmNum * trial.toNat < 2400 * ohmDen

/-! ## Pages (R6, R136, R137) -/

/-- Pages of a stored frame with a payload of `n` bytes (R6). -/
def framePages (n : Nat) : Nat := ceilDiv (6 + n) 256

/-- The room in the tail page of a job (R137). -/
def tailRoom (received : Nat) : Nat := if received % 256 = 0 then 0 else 256 - received % 256

/-- New pages a block of `n` bytes needs in a job with `received` bytes (R137). -/
def appendPages (received n : Nat) : Nat :=
  if n ≤ tailRoom received then 0 else ceilDiv (n - tailRoom received) 256

/-- The most slots a backoff after failed attempt `n` may wait, plus one (R38). -/
def backoffRange (n : Nat) : Nat := 2 ^ min n 8

/-! ## Check sequences (R5, R180) -/

/-- One bit of the trunk CRC. -/
def crcBit (c : Half) : Half := if c.getLsbD 15 then (c <<< 1) ^^^ 0x1021 else c <<< 1

/-- One byte of the trunk CRC, most significant bit first (R5). -/
def crcByte (c : Half) (b : Byte) : Half :=
  let x := c ^^^ (b ++ (0 : Byte))
  crcBit (crcBit (crcBit (crcBit (crcBit (crcBit (crcBit (crcBit x)))))))

/-- The trunk CRC-16 (R5). -/
def trunkCrc (bs : List Byte) : Half := bs.foldl crcByte 0xFFFF

/-- One bit of the FCS, in reflected form. -/
def fcsBit (c : Counter) : Counter := if c.getLsbD 0 then (c >>> 1) ^^^ 0xEDB88320 else c >>> 1

/-- One byte of the FCS, least significant bit first (R180). -/
def fcsByte (c : Counter) (b : Byte) : Counter :=
  let x := c ^^^ b.setWidth 32
  fcsBit (fcsBit (fcsBit (fcsBit (fcsBit (fcsBit (fcsBit (fcsBit x)))))))

/-- The Ethernet check result (R180). -/
def fcsValue (bs : List Byte) : Counter := ~~~ (bs.foldl fcsByte 0xFFFFFFFF)

/-- The four FCS bytes on the line, the result's least significant byte first (R180). -/
def fcsBytes (bs : List Byte) : List Byte :=
  let v := fcsValue bs
  [v.extractLsb' 0 8, v.extractLsb' 8 8, v.extractLsb' 16 8, v.extractLsb' 24 8]

/-- The bytes of a trunk frame after the sync word: header, payload, fresh CRC (R37, R181). -/
def trunkBytes (h : Header) (payload : List Byte) : List Byte :=
  h.bytes ++ payload ++ halfBytes (trunkCrc (h.bytes ++ payload))

/-- The bytes an attempt puts on the line, in order: preamble, sync word, header, payload, CRC (R37, R181). -/
def lineFrame (pattern : SyncWord) (h : Header) (payload : List Byte) : List Byte :=
  preamble ++ patternBytes pattern ++ trunkBytes h payload

end Sys2Proof.Machine
end

