-- ==== Sys2Proof/Machine/Messages.lean ====
section
/-! DEFINITION. The notice bodies (R185 to R187, R191), the message each notice becomes, and what stands on the
management line. -/

namespace Sys2Proof.Machine

/-- The 11 bytes of a fault record (R185). -/
def FaultRecord.bytes (r : FaultRecord) : List Byte :=
  halfBytes r.seq ++ counterBytes r.time ++ [r.kind.byte] ++ nat2 r.health ++
    match r.distance with
    | some d => nat2 d
    | none => [0xFF, 0xFF]

/-- A drift in 16-bit two's complement (R75, R180). -/
def driftBytes (now before : Nat) : List Byte := halfBytes (BitVec.ofInt 16 ((now : Int) - (before : Int)))

/-- The 24 bytes of TEST_RESULT (R186). -/
def TestReport.bytes (r : TestReport) : List Byte :=
  let rangeFlag := match r.trim with
    | some (_, _, f) => f
    | none => false
  let flags : Byte := (0 : BitVec 3) ++ BitVec.ofBool rangeFlag ++ BitVec.ofBool r.trim.isSome ++ BitVec.ofBool r.previous.isSome ++
    BitVec.ofBool r.ranging.isSome ++ BitVec.ofBool r.trimRequested
  [segByte r.segment, r.cause.byte, r.outcome.byte] ++ nat1 r.attempts ++ [flags] ++
    (match r.ranging with
      | some c => [c.kind.byte] ++ nat2 c.t ++ nat2 c.distance ++ nat2 c.vf
      | none => [0, 0, 0, 0, 0, 0, 0]) ++
    (match r.ranging, r.previous with
      | some c, some p => nat2 p.t ++ nat2 p.distance ++ driftBytes c.t p.t ++ driftBytes c.distance p.distance
      | _, _ => [0, 0, 0, 0, 0, 0, 0, 0]) ++
    (match r.trim with
      | some (prior, code, _) => [prior.setWidth 8, code.setWidth 8] ++ nat2 (trimResistance code)
      | none => [0, 0, 0, 0])

/-- The 17 bytes of JOB_DONE (R187). -/
def JobReport.bytes (r : JobReport) : List Byte :=
  halfBytes r.number ++ [r.outcome.byte, r.source, r.origin.byte, r.service, flagByte r.urgent] ++ nat4 r.received ++
    nat4 r.delivered ++
    match r.printer with
    | some (p, n) => nat1 p ++ [n]
    | none => [0xFF, 0]

/-- The body of a notice (R185 to R187, R191). -/
def Notice.body : Notice → List Byte
  | .started cause rate => [cause.byte] ++ nat4 rate
  | .segmentState seg old new reason relay lineCode cause =>
    [segByte seg, old.byte, new.byte, optByte IsoReason.byte reason, relay.byte, lineCode.setWidth 8, cause.byte]
  | .fault seg record => [segByte seg] ++ record.bytes
  | .testResult report => report.bytes
  | .stationArrived n seg sync => [n, segByte seg] ++ nat1 sync.val
  | .stationDeparted n seg second forgotten => [n, segByte seg, optByte segByte second, if forgotten then 0x02 else 0x01]
  | .stationMoved n src dst pinned => [n, segByte src, segByte dst, if pinned then 0x02 else 0x01]
  | .stationConflict n first second replaced => [n, segByte first, segByte second, if replaced then 0x02 else 0x01]
  | .conflictCleared n kept pinned => [n, segByte kept, if pinned then 0x02 else 0x01]
  | .addressViolation n seg kind pinnedTo => [n, segByte seg, kind.byte, optByte segByte pinnedTo]
  | .uplinkState up => [if up then 0x01 else 0x02]
  | .printerState p n old new reason pause =>
    nat1 p ++ [n, old.byte, new.byte, optByte UnreachReason.byte reason, pause.byte]
  | .jobDone report => report.bytes

/-- The message a notice is sent as: tag 0, codes from 0xC0 (R184). -/
def Notice.msg (n : Notice) : Msg :=
  { kind := kindNotice, code := BitVec.ofNat 8 (0xC0 + n.index), tag := 0, body := n.body }

/-- A reply message (R184): the request's code and tag, the status, and what follows it. -/
def replyMsg (code tag : Byte) (status : Status) (rest : List Byte) : Msg :=
  { kind := kindReply, code := code, tag := tag, body := status.byte :: rest }

/-- The message the management transmitter is sending, if any (R172). -/
def Mgmt.onLine (m : Mgmt) : Option Msg :=
  match m.sending with
  | some .reply => m.reply
  | some .refusal => m.refusal
  | some (.notice n) => some n.msg
  | none => none

/-- The bytes of that message on the line: a delimiter before it when it started after the line had been idle, and one after it;
otherwise the delimiter that closed the last message opens it (R169). -/
def State.managementLine (s : State) : List Byte :=
  match s.mgmt.onLine with
  | some m => (if s.mgmt.opening then [delimiter] else []) ++ m.lineBytes ++ [delimiter]
  | none => []

end Sys2Proof.Machine
end

