-- ==== Sys2Proof/Machine/PoolOps.lean ====
section
/-! DEFINITION. The Page Pool (chapter 7): owners, allocations, references, releases. -/

namespace Sys2Proof.Machine

/-- Pages in the pool (R123). -/
def poolPages : Nat := 1024

/-- The pages held by stored frames (R123). -/
def State.framePageList (s : State) : List Nat := s.pool.frames.flatMap fun e => e.2.pages

/-- The pages held by jobs (R123). -/
def State.jobPageList (s : State) : List Nat := s.intake.jobs.flatMap fun j => j.chain

/-- Frame-held pages, job-held pages and free pages (R123). -/
def State.frameHeld (s : State) : Nat := s.framePageList.length
def State.jobHeld (s : State) : Nat := s.jobPageList.length
def State.freePages (s : State) : Nat := poolPages - (s.frameHeld + s.jobHeld)

/-- The first `want` pages from `page` on, `fuel` of them looked at, that no owner holds. -/
def pickPages (used : List Nat) : Nat → Nat → Nat → List Nat
  | 0, _, _ => []
  | _ + 1, _, 0 => []
  | fuel + 1, page, want + 1 =>
    if used.contains page then pickPages used fuel (page + 1) (want + 1)
    else page :: pickPages used fuel (page + 1) want

/-- The pages an allocation of `n` takes: the lowest free ones (R123 leaves the choice to the pool; log entry 9). -/
def State.choosePages (s : State) (n : Nat) : List Nat :=
  pickPages (s.framePageList ++ s.jobPageList) poolPages 0 n

/-- The lowest free figure follows the free count down (R125, R127). -/
def State.noteLowest (s : State) : State :=
  { s with pool := { s.pool with lowestFree := min s.pool.lowestFree s.freePages } }

/-- Store a frame by a transit allocation (R114, R125): refused when too few pages are free; otherwise its header and
payload are written into the pages taken, with a reference count of 0. Answers the frame's name. -/
def State.storeFrame (s : State) (f : Frame) : Option (Nat × State) :=
  let n := framePages f.payload.length
  if s.freePages < n then none
  else
    match s.choosePages n with
    | [] => none
    | p :: ps =>
      some (p, State.noteLowest { s with pool := { s.pool with
        mem := streamWrite s.pool.mem (p :: ps) 0 (f.header.bytes ++ f.payload)
        frames := tablePut s.pool.frames p ⟨p :: ps, 0⟩ } })

/-- Add a reference to a stored frame (R126). -/
def State.addRef (s : State) (frame : Nat) : State :=
  match tableGet s.pool.frames frame with
  | some r => { s with pool := { s.pool with frames := tablePut s.pool.frames frame { r with refs := r.refs + 1 } } }
  | none => s

/-- Free a stored frame nobody refers to (R126). -/
def State.freeIfUnreferenced (s : State) (frame : Nat) : State :=
  match tableGet s.pool.frames frame with
  | some r => if r.refs = 0 then { s with pool := { s.pool with frames := tableDrop s.pool.frames frame } } else s
  | none => s

/-- Drop one reference on a stored frame; at 0 its pages are freed together and its record is discarded (R126). -/
def State.dropRef (s : State) (frame : Nat) : State :=
  match tableGet s.pool.frames frame with
  | some r =>
    State.freeIfUnreferenced
      { s with pool := { s.pool with frames := tablePut s.pool.frames frame { r with refs := r.refs - 1 } } } frame
  | none => s

/-- Drop the reference of a payload source, if it is a stored frame (R35, R39). -/
def State.dropSource (s : State) : PayloadSource → State
  | .stored frame => s.dropRef frame
  | _ => s

/-- The payload bytes of a payload source (R34, R124). The header of a stored frame is its first six bytes; its payload is
as long as the header says. -/
def State.payloadOf (s : State) (h : Header) : PayloadSource → List Byte
  | .stored frame =>
    match tableGet s.pool.frames frame with
    | some r => streamRead s.pool.mem r.pages 6 h.len.toNat
    | none => []
  | .span page offset count => pageRead s.pool.mem page offset count
  | .nothing => []

/-- How a print allocation is judged (R127). -/
inductive PrintGrant where
  | granted (pages : List Nat)
  | quota
  | reserve
  deriving DecidableEq, Repr

/-- A print allocation of `n` pages for a job that holds `held` (R127). -/
def State.judgePrint (s : State) (held n : Nat) : PrintGrant :=
  if n = 0 then .granted []
  else if s.pool.quota < held + n then .quota
  else if s.freePages < s.pool.reserve + n then .reserve
  else .granted (s.choosePages n)

/-- A refused print allocation is counted (R127). -/
def State.countQuotaRefusal (s : State) : State := { s with pool := { s.pool with quotaRefusals := s.pool.quotaRefusals + 1 } }
def State.countReserveRefusal (s : State) : State :=
  { s with pool := { s.pool with reserveRefusals := s.pool.reserveRefusals + 1 } }

/-- Write job data over the tail page's room and the new pages (R137). -/
def State.writeJobData (s : State) (pages : List Nat) (offset : Nat) (bs : List Byte) : State :=
  { s with pool := { s.pool with mem := streamWrite s.pool.mem pages offset bs } }

end Sys2Proof.Machine
end

