-- ==== Sys2Proof/Machine/PortOps.lean ====
section
/-! DEFINITION. Segment ports and the Uplink Port: queues, offers, completion, flush and withdrawal (chapters 2 and 6), port
counters, and the change of segment state (R23). -/

namespace Sys2Proof.Machine

/-! ## Queues and offers (R34, R36, R118) -/

/-- The capacities of a port's queues (R18, R116). -/
def serviceCapacity : Nat := 8
def transitCapacity : Nat := 32

/-- How a port judges an offer (R34). -/
inductive OfferResult where
  | taken | full | unreachable
  deriving DecidableEq, Repr

/-- The transmitter with no current entry takes the head of the service queue, or else of the transit queue, and forms its
send list (R36). -/
def Port.takeEntry (syncs : Three SyncEntry) (p : Port) : Port :=
  match p.current with
  | some _ => p
  | none =>
    match p.service, p.transit with
    | e :: _, _ => { p with current := some ⟨true, sendList syncs e.dest, 1, none, .deferring⟩ }
    | [], e :: _ => { p with current := some ⟨false, sendList syncs e.dest, 1, none, .deferring⟩ }
    | [], [] => p

/-- A segment port judges an offer at the moment it arrives (R34), and its idle transmitter takes an entry (R36). -/
def Port.offer (syncs : Three SyncEntry) (p : Port) (service : Bool) (e : QEntry SyncSet) : Port × OfferResult :=
  if p.state ≠ .forwarding then (p, .unreachable)
  else if service then
    if p.service.length < serviceCapacity then (Port.takeEntry syncs { p with service := p.service ++ [e] }, .taken)
    else ({ p with tx := { p.tx with serviceFull := p.tx.serviceFull + 1 } }, .full)
  else if p.transit.length < transitCapacity then (Port.takeEntry syncs { p with transit := p.transit ++ [e] }, .taken)
  else (p, .full)

/-- The uplink judges an offer on its link state and its queue's room (R118). -/
def Uplink.offer (u : Uplink) (service : Bool) (e : QEntry Mac) : Uplink × OfferResult :=
  if !u.up then (u, .unreachable)
  else if service then
    if u.service.length < serviceCapacity then ({ u with service := u.service ++ [e] }, .taken)
    else ({ u with counters := { u.counters with serviceFull := u.counters.serviceFull + 1 } }, .full)
  else if u.transit.length < transitCapacity then ({ u with transit := u.transit ++ [e] }, .taken)
  else (u, .full)

/-- Add the reference a taken entry holds on a stored frame (R126). -/
def State.addSource (s : State) : PayloadSource → State
  | .stored frame => s.addRef frame
  | _ => s

/-- Offer an entry to a segment port; a taken entry adds its reference (R34, R114). -/
def State.offerSegment (s : State) (i : SegIx) (service : Bool) (e : QEntry SyncSet) : State × OfferResult :=
  let (p, r) := (s.port i).offer s.syncs service e
  let s1 := s.setPort i p
  (if r = .taken then s1.addSource e.source else s1, r)

/-- Offer an entry to the uplink (R118). -/
def State.offerUplink (s : State) (service : Bool) (e : QEntry Mac) : State × OfferResult :=
  let (u, r) := s.uplink.offer service e
  let s1 := { s with uplink := u }
  (if r = .taken then s1.addSource e.source else s1, r)

/-- Where the part sends a frame of its own: a segment with a sync set, or the uplink with a destination MAC. -/
inductive Route where
  | segment (i : SegIx) (set : SyncSet)
  | uplink (mac : Mac)
  deriving DecidableEq, Repr

/-- Offer a frame of the part's own to a service queue (R34, R118). -/
def State.offerService (s : State) (route : Route) (source : PayloadSource) (h : Header) : State × OfferResult :=
  match route with
  | .segment i set => s.offerSegment i true ⟨source, h, set⟩
  | .uplink mac => s.offerUplink true ⟨source, h, mac⟩

/-! ## Completion, flush, withdrawal (R35, R39, R117, R159) -/

/-- The current entry of a port: the head of the queue it was taken from. -/
def Port.currentEntry (p : Port) : Option (QEntry SyncSet) :=
  match p.current with
  | some c => if c.service then p.service.head? else p.transit.head?
  | none => none

/-- The entry completes: it leaves the head of its queue, a stored frame loses one reference, and the transmitter takes its
next entry (R39). -/
def State.completeEntry (s : State) (i : SegIx) : State :=
  let p := s.port i
  match p.current, p.currentEntry with
  | some c, some e =>
    let p1 := if c.service then { p with service := p.service.drop 1, current := none }
              else { p with transit := p.transit.drop 1, current := none }
    (s.setPort i (p1.takeEntry s.syncs)).dropSource e.source
  | _, _ => s

/-- The transmitter goes on to the next copy of the send list at attempt 1, or the entry completes (R38, R39). -/
def State.nextCopy (s : State) (i : SegIx) : State :=
  let p := s.port i
  match p.current with
  | some c =>
    match c.copies with
    | _ :: next :: rest => s.setPort i { p with current := some ⟨c.service, next :: rest, 1, none, .deferring⟩ }
    | _ => s.completeEntry i
  | none => s

/-- Drop the references of flushed entries (R35). -/
def State.dropAll {δ : Type} (s : State) (es : List (QEntry δ)) : State := es.foldl (fun s e => s.dropSource e.source) s

/-- Flush both queues of a segment, the current entry included (R35). -/
def State.flushSegment (s : State) (i : SegIx) : State :=
  let p := s.port i
  let es := p.service ++ p.transit
  State.dropAll (s.setPort i { p with
    service := []
    transit := []
    current := none
    tx := { p.tx with flushed := p.tx.flushed + BitVec.ofNat 32 es.length } }) es

/-- Flush both queues of the uplink, the current entry included (R117). -/
def State.flushUplink (s : State) : State :=
  let u := s.uplink
  let es := u.service ++ u.transit
  State.dropAll { s with uplink := { u with
    service := []
    transit := []
    current := none
    counters := { u.counters with flushed := u.counters.flushed + BitVec.ofNat 32 es.length } } } es

/-- Whether an entry is a print block of page `page` (R159). -/
def QEntry.isPage {δ : Type} (page : Nat) (e : QEntry δ) : Bool :=
  match e.source with
  | .span p _ _ => p = page
  | _ => false

/-- Withdraw the print-block entries of a page from a segment's service queue; a current one is cut off (R159). -/
def Port.withdraw (syncs : Three SyncEntry) (page : Nat) (p : Port) : Port :=
  let gone := (p.service.filter (QEntry.isPage page)).length
  if gone = 0 then p
  else
    let cut := match p.current, p.service with
      | some c, e :: _ => c.service && e.isPage page
      | _, _ => false
    Port.takeEntry syncs { p with
      service := p.service.filter (fun e => !e.isPage page)
      current := if cut then none else p.current
      tx := { p.tx with flushed := p.tx.flushed + BitVec.ofNat 32 gone } }

/-- The same on the uplink (R159). -/
def Uplink.withdraw (page : Nat) (u : Uplink) : Uplink :=
  let gone := (u.service.filter (QEntry.isPage page)).length
  if gone = 0 then u
  else
    let cut := match u.current, u.service with
      | some c, e :: _ => c.service && e.isPage page
      | _, _ => false
    { u with
      service := u.service.filter (fun e => !e.isPage page)
      current := if cut then none else u.current
      counters := { u.counters with flushed := u.counters.flushed + BitVec.ofNat 32 gone } }

/-- Withdraw a page's print-block entries wherever they are queued (R159). -/
def State.withdrawPage (s : State) (page : Nat) : State :=
  { s with ports := s.ports.map (Port.withdraw s.syncs page), uplink := s.uplink.withdraw page }

/-- The uplink's entry completes, sent or not (R118). -/
def State.completeUplink (s : State) : State :=
  let u := s.uplink
  match u.current with
  | some c =>
    match (if c.service then u.service else u.transit) with
    | e :: rest =>
      let u1 := if c.service then { u with service := rest, current := none } else { u with transit := rest, current := none }
      State.dropSource { s with uplink := u1 } e.source
    | [] => { s with uplink := { u with current := none } }
  | none => s

/-! ## Port counters -/

/-- Count on the forwarding counters of an origin port (R115). -/
def State.countFwd (s : State) (o : Origin) (f : FwdCounters → FwdCounters) : State :=
  match o with
  | .segment i => s.setPort i { s.port i with fwd := f (s.port i).fwd }
  | .uplink => { s with uplink := { s.uplink with fwd := f s.uplink.fwd } }

def FwdCounters.addFiltered (c : FwdCounters) : FwdCounters := { c with filtered := c.filtered + 1 }
def FwdCounters.addUnreachable (c : FwdCounters) : FwdCounters := { c with unreachable := c.unreachable + 1 }
def FwdCounters.addUnwanted (c : FwdCounters) : FwdCounters := { c with unwanted := c.unwanted + 1 }
def FwdCounters.addDirectPrint (c : FwdCounters) : FwdCounters := { c with directPrint := c.directPrint + 1 }
def FwdCounters.addNoBuffer (c : FwdCounters) : FwdCounters := { c with noBuffer := c.noBuffer + 1 }
def FwdCounters.addTailDrop (c : FwdCounters) : FwdCounters := { c with tailDrop := c.tailDrop + 1 }
def FwdCounters.addViolation (c : FwdCounters) : FwdCounters := { c with addressViolation := c.addressViolation + 1 }
def FwdCounters.addAnswered (c : FwdCounters) : FwdCounters := { c with answered := c.answered + 1 }

/-! ## Segment state (R18 to R23) -/

/-- The relay position each state calls for (R19). -/
def SegState.relay : SegState → Relay
  | .disabled => .park
  | .parked => .park
  | _ => .transceiver

/-- Whether the receiver detects jabber in a state (R1). -/
def SegState.detectsJabber : SegState → Bool
  | .settling => true
  | .forwarding => true
  | .isolated => true
  | _ => false

/-- The supervised states (3.2). -/
def SegState.supervised : SegState → Bool
  | .forwarding => true
  | .isolated => true
  | _ => false

/-- The nominal code and the tester's code of the first probes (R21, R69). -/
def nominalCode : LoadCode := 48

/-- The line code at PARK (R21). -/
def ParkPolicy.code (policy : ParkPolicy) (trim : LoadCode) : LoadCode :=
  match policy with
  | .retain => trim
  | .nominal => nominalCode
  | .noLoad => 0

/-- The line code a state calls for at the transition into it (R19); TESTING's is the tester's 48 (R69). -/
def Port.codeFor (p : Port) (st : SegState) : LoadCode :=
  match st with
  | .disabled => p.policy.code p.trim
  | .parked => p.policy.code p.trim
  | .testing => nominalCode
  | _ => p.trim

/-- Milliseconds of carrier to the jabber mark (R12). -/
def jabberTime : Nat := 4

/-- The receiver at a change of segment state (R12, R15): into a state that does not detect jabber, the reception is cut off
and timing stops; out of one, timing restarts if carrier is present and no reception is under way; otherwise it carries on. A
carrier that began in TESTING and outlasts the test gets no reception either (log entry 40). -/
def Receiver.change (r : Receiver) (old new : SegState) : Receiver :=
  if !new.detectsJabber then { r with marked := false, carrierTimer := .stopped, reception := none }
  else if !old.detectsJabber then
    { r with marked := false, carrierTimer := if r.lineCarrier then .running jabberTime else .stopped, reception := none }
  else r

/-- The carrier as the receiver reports it (R16): stations' carrier or the part's own transmission, while the relay is at
TRANSCEIVER. -/
def Port.carrier (p : Port) : Bool :=
  p.relay = .transceiver && (p.receiver.lineCarrier ||
    match p.current with
    | some ⟨_, _, _, _, .sending _⟩ => true
    | _ => false)

/-- The receiver's report that jabber has stopped (R12, R51). -/
def State.jabberStopped (s : State) (i : SegIx) : State :=
  s.setSup i { s.sup i with live := (s.sup i).live.set .jabber false }

/-- The isolation reason after a change (R23, R29 to R33): set on entry to ISOLATED, kept through a test, cleared elsewhere. -/
def nextReason (old : Option IsoReason) (new : SegState) (given : Option IsoReason) : Option IsoReason :=
  match new with
  | .isolated => match given with
    | some r => some r
    | none => old
  | .testing => old
  | _ => none

/-- Every change of segment state is one event at the port (R23): relay and line code, settle timer, queue flush on leaving
FORWARDING, isolation reason; then the SEGMENT_STATE notice, and the change on its way to the Line Supervisor, the Line
Tester and Printer Delivery. -/
def State.changeState (s : State) (i : SegIx) (new : SegState) (reason : Option IsoReason) (cause : StateCause) : State :=
  let old := (s.port i).state
  let s0 := if old = .forwarding then s.flushSegment i else s
  let p := s0.port i
  let stopsJabber := p.receiver.marked && !new.detectsJabber
  let p1 := { p with
    state := new
    relay := new.relay
    lineCode := p.codeFor new
    settleTimer := if new = .settling then .running p.settleTime else .stopped
    reason := nextReason p.reason new reason
    receiver := p.receiver.change old new }
  let s1 := s0.setPort i p1
  let s2 := if stopsJabber then s1.jabberStopped i else s1
  let s3 := s2.raise (.stateEntry i old new p1.reason)
  let s4 := if old = .isolated then s3.raise (.leftIsolated i) else s3
  (s4.raise (.segmentChange i)).notify
    (.segmentState i old new (if new = .isolated then p1.reason else none) p1.relay p1.lineCode cause)

end Sys2Proof.Machine
end

