-- ==== Sys2Proof/Machine/SupervisionOps.lean ====
section
/-! DEFINITION. The Line Supervisor (chapter 3): window counts, live conditions, latches, fault records, flaps, and what a
context does at its segment's entry to a state. -/

namespace Sys2Proof.Machine

/-! ## Windows (R43, R44) -/

/-- The counts a window begins with: J is 1 while JABBER is live (R44). -/
def freshCounts (live : CondSet) : WindowCounts := ⟨0, 0, 0, 0, if live.jabber then 1 else 0⟩

/-- Start the window timer for a window run in state `st` (R43, R44). -/
def Supervision.startWindow (c : Supervision) (st : SegState) : Supervision :=
  { c with counts := freshCounts c.live, windowTimer := .running (c.settings.window * 100), windowState := st }

/-- Stop the window timer and clear the counts (R43). -/
def Supervision.stopWindow (c : Supervision) (st : SegState) : Supervision :=
  { c with counts := ⟨0, 0, 0, 0, 0⟩, windowTimer := .stopped, windowState := st }

/-- Feed the window counts in the supervised states and no others (R13). -/
def State.feedWindow (s : State) (i : SegIx) (f : WindowCounts → WindowCounts) : State :=
  if (s.port i).state.supervised then s.setSup i { s.sup i with counts := f (s.sup i).counts } else s

/-- Feed the receive counters in FORWARDING alone (R13). -/
def State.feedCounters (s : State) (i : SegIx) (f : RxCounters → RxCounters) : State :=
  if (s.port i).state = .forwarding then s.setPort i { s.port i with rx := f (s.port i).rx } else s

/-! ## Fault records (R59 to R62) -/

/-- Records a history holds (R60). -/
def historyCapacity : Nat := 8

/-- Write a fault record: sequence, the oldest out of eight removed, the new one newest, the FAULT notice (R60, R62). -/
def State.writeRecord (s : State) (i : SegIx) (kind : FaultKind) (distance : Option Nat) : State :=
  let c := s.sup i
  let r : FaultRecord := ⟨c.nextSeq, s.time.seconds, kind, c.health, distance⟩
  (s.setSup i { c with nextSeq := c.nextSeq + 1, history := r :: c.history.take (historyCapacity - 1) }).notify (.fault i r)

/-! ## Latching (R53, R54) -/

/-- A condition latches: its flag is set and its record written (R54). -/
def State.latch (s : State) (i : SegIx) (c : Condition) : State :=
  (s.setSup i { s.sup i with latched := (s.sup i).latched.set c true }).writeRecord i (.condition c) none

/-- Whether a latch in state `st` orders an isolation for a condition (R54). -/
def Supervision.orders (c : Supervision) (st : SegState) (cond : Condition) : Bool :=
  st = .forwarding && c.settings.autoIsolate && c.settings.isolateSet.get cond

/-- A live condition goes from clear to set in state `st`: it latches when the state is supervised, the mask is over and its
flag is clear (R53), and may order an isolation (R54), with the auto-test setting now in force (R42). Set already, it is no
new setting. A setting between the port's change of state and the supervisor's own entry is judged in the port's new state
with the mask as it stands; HEALTH, in the state of its window (log entry 42). -/
def State.setLive (s : State) (i : SegIx) (cond : Condition) (st : SegState) : State :=
  let c := s.sup i
  if c.live.get cond then s
  else
    let s1 := s.setSup i { c with live := c.live.set cond true }
    if st.supervised && c.mask = 0 && !c.latched.get cond then
      let s2 := s1.latch i cond
      if c.orders st cond then s2.raise (.isolationOrder i cond c.settings.autoTest) else s2
    else s1

/-- Clear a live condition (R51, R52). -/
def State.clearLive (s : State) (i : SegIx) (cond : Condition) : State :=
  s.setSup i { s.sup i with live := (s.sup i).live.set cond false }

/-- The conditions of the set found live that latch when each latches as if just set (R53). -/
def Supervision.toLatch (c : Supervision) (found : CondSet) : List Condition :=
  conditions.filter fun k => found.get k && !c.latched.get k

/-- Every condition found live latches as if it had just been set, in the order of R53; in state `st`, one isolation order at
most, for the first that orders one (R53, R54), with the auto-test setting now in force (R42). -/
def State.latchFound (s : State) (i : SegIx) (st : SegState) (found : CondSet) : State :=
  let c := s.sup i
  let s1 := (c.toLatch found).foldl (fun s k => s.latch i k) s
  match (c.toLatch found).find? fun k => c.orders st k with
  | some k => s1.raise (.isolationOrder i k c.settings.autoTest)
  | none => s1

/-! ## Flaps (R58) -/

/-- The flap timer's length (R58). -/
def flapTime : Nat := 600000

/-- One automatic isolation more: saturating at 7, the timer started when the count leaves 0 (R58). -/
def Supervision.addFlap (c : Supervision) : Supervision :=
  { c with flaps := if c.flaps < 7 then c.flaps + 1 else c.flaps
           flapTimer := if c.flaps = 0 then .running flapTime else c.flapTimer }

/-- The flap count is set to 0 and its timer stopped (R58). -/
def Supervision.clearFlaps (c : Supervision) : Supervision := { c with flaps := 0, flapTimer := .stopped }

/-! ## State entries (R43, R56) -/

/-- What disabling clears in a context; settings, history and next sequence are kept (R33, R41). -/
def Supervision.disabled (c : Supervision) : Supervision :=
  { resetSupervision with history := c.history, nextSeq := c.nextSeq, settings := c.settings }

/-- The context's work at entry to SETTLING (R52, R56). -/
def Supervision.enterSettling (c : Supervision) : Supervision :=
  { c with latched := CondSet.clear, live := (c.live.set .txBlocked false).set .health false, strikes := 0, rejoins := 0 }

/-- The conditions found live at an entry to ISOLATED from SETTLING: those live now, and JABBER when the settle timer found it
live and made that its reason (R53, R55). -/
def Supervision.foundAtEntry (c : Supervision) (reason : Option IsoReason) : CondSet :=
  if reason = some (.fault .jabber) then c.live.set .jabber true else c.live

/-- The supervision context acts on its segment's change from `old` to `new` (R43, R56). `reason` is the isolation reason at
that change. -/
def State.superviseEntry (s : State) (i : SegIx) (old new : SegState) (reason : Option IsoReason) : State :=
  let c := s.sup i
  match new with
  | .settling => s.setSup i ((c.enterSettling).stopWindow .settling)
  | .forwarding => s.setSup i ({ c with mask := c.settings.maskWindows }.startWindow .forwarding)
  | .isolated =>
    match old with
    | .forwarding =>
      let s1 := s.setSup i ({ c with mask := 0, rejoins := 0 }.startWindow .isolated)
      if reason = some .requested then s1.writeRecord i .requested none else s1
    | .settling =>
      let s1 := s.setSup i ({ c with rejoins := 0 }.startWindow .isolated)
      let s2 := s1.latchFound i .isolated (c.foundAtEntry reason)
      let s3 := if reason = some .requested then s2.writeRecord i .requested none else s2
      if reason = some (.fault .jabber) then s3.setSup i (s3.sup i).addFlap else s3
    | _ => s.setSup i (c.startWindow .isolated)
  | .testing => s.setSup i (c.stopWindow .testing)
  | .parked => s.setSup i ({ c with mask := 0 }.stopWindow .parked)
  | .disabled => s.setSup i c.disabled

/-! ## Window expiry (R45 to R50) -/

/-- Steps R45 and R46: E is stored and S moves toward it. -/
def Supervision.measure (c : Supervision) : Supervision :=
  { c with lastE := some (windowError c.counts), health := healthStep c.health (windowError c.counts) c.settings.shift }

/-- The strike counter after S (R48). -/
def Supervision.strike (c : Supervision) : Supervision :=
  { c with strikes := if c.settings.high ≤ c.health then (if c.strikes < 8 then c.strikes + 1 else c.strikes) else 0 }

/-- The rejoin counter after S (R49). -/
def Supervision.countRejoin (c : Supervision) : Supervision :=
  { c with rejoins := if c.health ≤ c.settings.low then (if c.rejoins < 32 then c.rejoins + 1 else c.rejoins) else 0 }

/-- The first four conditions of automatic rejoin (R49). -/
def Supervision.mayRejoin (c : Supervision) : Bool :=
  c.settings.rejoinWindows ≤ c.rejoins && c.live.isClear && c.flaps < c.settings.flapLimit && c.settings.autoRejoin

/-- HEALTH is judged on the strike counter (R48); going from clear to set it latches (R53, R54). -/
def State.judgeHealth (s : State) (i : SegIx) : State :=
  let c := s.sup i
  if c.settings.strikes ≤ c.strikes then s.setLive i .health c.windowState else s.clearLive i .health

/-- The rejoin step of an expiry whose window ran in ISOLATED (R49). -/
def State.judgeRejoin (s : State) (i : SegIx) : State :=
  let c := (s.sup i).countRejoin
  let s1 := s.setSup i c
  if c.mayRejoin && (s.port i).reason ≠ some .requested then s1.raise (.rejoinOrder i) else s1

/-- The expiry closes its window: counts cleared, J set as R44 lays down, timer restarted (R50). -/
def State.closeWindow (s : State) (i : SegIx) : State :=
  s.setSup i ((s.sup i).startWindow (s.sup i).windowState)

/-- A window expiry, R45 to R50 in order. -/
def State.expireWindow (s : State) (i : SegIx) : State :=
  let s1 := s.setSup i (s.sup i).measure
  let c := s1.sup i
  if 0 < c.mask then
    let s2 := (s1.setSup i { c with mask := c.mask - 1 }).closeWindow i
    if c.mask = 1 then s2.latchFound i c.windowState c.live else s2
  else
    let s2 := (s1.setSup i c.strike).judgeHealth i
    let s3 := if c.windowState = .isolated then s2.judgeRejoin i else s2
    s3.closeWindow i

end Sys2Proof.Machine
end

