-- ==== Sys2Proof/Machine/TesterOps.lean ====
section
/-! DEFINITION. The Line Tester (chapter 4): starting a test, its stages, its end, pending tests. -/

namespace Sys2Proof.Machine

/-- The 10 ms wait after a failed or disturbed attempt (R71, R72). -/
def quietWait : Nat := 10

/-- Quiet-check attempts in one test (R71, R72). -/
def maxAttempts : Nat := 4

/-- Set the pending flag of a segment (R66). -/
def State.setPending (s : State) (i : SegIx) (v : Bool) : State :=
  { s with tester := { s.tester with pendingFlags := s.tester.pendingFlags.set i v } }

/-- Replace the test context. -/
def State.setContext (s : State) (c : Option TestContext) : State := { s with tester := { s.tester with context := c } }

/-- Start a test, one event of tester and port (R69): the context, the pending flag, the transition to TESTING with the line
code at 48, the first quiet-check attempt. -/
def State.startTest (s : State) (i : SegIx) (cause : TestCause) (trim : Bool) : State :=
  let p := s.port i
  let ctx : TestContext :=
    { segment := i, cause := cause, stage := .quietCheck, attempts := 1, trimRequested := trim, accepted := 0, bit := 5,
      prior := p.trim, parkedBefore := p.state = .parked, rangingDone := false, wait := .stopped, raiseAfterWait := false }
  ((s.setContext (some ctx)).setPending i false).changeState i .testing none .tester

/-- The lowest-numbered segment with its pending flag set and in ISOLATED (R70). -/
def State.nextPending (s : State) : Option SegIx :=
  segments.find? fun i => s.tester.pendingFlags.get i && (s.port i).state = .isolated

/-- The tester becomes free and serves a pending flag if one is set (R70, R78). -/
def State.freeTester (s : State) : State :=
  let s1 := s.setContext none
  match s1.nextPending with
  | some i => s1.startTest i .automatic false
  | none => s1

/-- The TEST_RESULT of the test in context `c` with its outcome and, when the trim search completed, the code reported and the
TRIM_RANGE flag (R82). -/
def State.testReport (s : State) (c : TestContext) (outcome : TestOutcome) (trim : Option (LoadCode × Bool)) : TestReport :=
  let caps := s.tester.captures.get c.segment
  { segment := c.segment
    cause := c.cause
    outcome := outcome
    attempts := c.attempts
    trimRequested := c.trimRequested
    ranging := if c.rangingDone then caps.current else none
    previous := if c.rangingDone then caps.previous else none
    trim := trim.map fun t => (c.prior, t.1, t.2) }

/-- The state a segment goes to from TESTING (R32). -/
def testExit (c : TestContext) (outcome : TestOutcome) : SegState :=
  match outcome with
  | .openEnd => .parked
  | .shortEnd => .parked
  | _ => if c.parkedBefore then .parked else .isolated

/-- The trim search's result at the end of the test (R77, R78): 1 to 63 becomes the segment's trim code, 0 leaves it as it
stands with TRIM_RANGE set. Answers the code and the flag the notice carries. -/
def State.applyTrim (s : State) (i : SegIx) (accepted : LoadCode) : State × LoadCode × Bool :=
  if accepted = 0 then (s, (s.port i).trim, true)
  else (s.setPort i { s.port i with trim := accepted }, accepted, false)

/-- The fault record of an OPEN or SHORT end, with the distance of the new capture (R78, R60). -/
def State.recordEcho (s : State) (i : SegIx) (outcome : TestOutcome) : State :=
  let d := (s.tester.captures.get i).current.map Capture.distance
  match outcome with
  | .openEnd => s.writeRecord i .openLine d
  | .shortEnd => s.writeRecord i .shortLine d
  | _ => s

/-- The end of the test in context `c` by CLEAN, OPEN, SHORT or LINE_BUSY, its six steps in order (R78). `search` is the
accepted code of a completed trim search. -/
def State.endTest (s : State) (c : TestContext) (outcome : TestOutcome) (search : Option LoadCode) : State :=
  let i := c.segment
  let (s1, trim) := match search with
    | some a =>
      let (t, code, flag) := s.applyTrim i a
      (t, some (code, flag))
    | none => (s, none)
  let s2 := if outcome = .clean then s1.clearLive i .txBlocked else s1
  let s3 := s2.recordEcho i outcome
  let s4 := s3.notify (.testResult (s3.testReport c outcome trim))
  (s4.changeState i (testExit c outcome) none .tester).freeTester

/-- ABORT_LINE_TEST's end of the test in context `c` (R79). -/
def State.abortTest (s : State) (c : TestContext) : State :=
  let s1 := s.notify (.testResult (s.testReport c .aborted none))
  (s1.changeState c.segment (testExit c .aborted) none .tester).freeTester

/-- The trial code of a trim step (R76). -/
def TestContext.trial (c : TestContext) : LoadCode := c.accepted + BitVec.twoPow 6 c.bit

/-- The tester sets the line code of the segment under test (R69, R76). -/
def State.setLineCode (s : State) (i : SegIx) (code : LoadCode) : State := s.setPort i { s.port i with lineCode := code }

/-- The stage that waits for a successful quiet check (R71, R72). -/
def TestContext.waitingStage (c : TestContext) : TestStage := if c.rangingDone then .trim else .ranging

/-- A quiet-check attempt fails at the moment carrier is seen (R71). -/
def State.failQuiet (s : State) (c : TestContext) : State :=
  if c.attempts < maxAttempts then
    s.setContext (some { c with wait := .running quietWait, raiseAfterWait := true })
  else s.endTest c .lineBusy none

/-- A probe is disturbed: it is discarded and the tester goes back to QUIET_CHECK (R72). -/
def State.disturb (s : State) (c : TestContext) : State :=
  if c.attempts < maxAttempts then
    s.setContext (some { c with stage := .quietCheck, attempts := c.attempts + 1, wait := .running quietWait, raiseAfterWait := false })
  else s.endTest c .lineBusy none

/-- Write a completed ranging probe's capture: the current one becomes the previous one (R74). -/
def State.writeCapture (s : State) (i : SegIx) (cap : Capture) : State :=
  { s with tester := { s.tester with captures := s.tester.captures.set i ⟨some cap, (s.tester.captures.get i).current⟩ } }

/-- A ranging probe completes (R73, R74, R75, R76). -/
def State.completeRanging (s : State) (c : TestContext) (probe : Nat) (line : List Excursion) : State :=
  let (kind, t) := judgeEcho probe line
  let vf := (s.sup c.segment).settings.vf
  let s1 := s.writeCapture c.segment ⟨t, kind, vf, echoDistance t vf, s.time.seconds⟩
  let c1 := { c with rangingDone := true }
  match kind with
  | .openEnd => s1.endTest c1 .openEnd none
  | .shortEnd => s1.endTest c1 .shortEnd none
  | _ =>
    if c.trimRequested then
      let c2 := { c1 with stage := .trim }
      (s1.setContext (some c2)).setLineCode c.segment c2.trial
    else s1.endTest c1 .clean none

/-- A trim probe reads ABOVE or BELOW (R76), and the search goes on or completes (R77, R78). -/
def State.completeTrimProbe (s : State) (c : TestContext) (ohmNum ohmDen : Nat) : State :=
  let kept := if trimAbove c.trial ohmNum ohmDen then c.trial else c.accepted
  if 0 < c.bit then
    let c1 := { c with accepted := kept, bit := c.bit - 1 }
    (s.setContext (some c1)).setLineCode c.segment c1.trial
  else s.endTest { c with accepted := kept } .clean (some kept)

end Sys2Proof.Machine
end

