-- ==== Sys2Proof/Machine/StationOps.lean ====
section
/-! DEFINITION. The Station Table (chapter 5): kinds of number, learning, aging, aliases, resolving. -/

namespace Sys2Proof.Machine

/-! ## Entries (R84) -/

/-- The entry of a number nothing is known of. -/
def emptyStation : Station := ⟨.empty, false, false, false⟩

/-- The entry of station number `n`. -/
def StationTable.entry (t : StationTable) (n : Byte) : Station := (tableGet t.entries n.toNat).getD emptyStation

/-- Replace an entry; an entry equal to the empty one is not listed. -/
def StationTable.setEntry (t : StationTable) (n : Byte) (e : Station) : StationTable :=
  { t with entries := if e = emptyStation then tableDrop t.entries n.toNat else tablePut t.entries n.toNat e }

/-- Replace an entry of the table in the state. -/
def State.setEntry (s : State) (n : Byte) (e : Station) : State := { s with table := s.table.setEntry n e }

/-- The first side of an entry. -/
def Known.first : Known → Option Side
  | .empty => none
  | .active a => some a
  | .quiet a => some a
  | .duplicate a _ => some a

/-- Whether an entry is not EMPTY. -/
def Station.isKnown (e : Station) : Bool := e.known ≠ .empty

/-- An entry becomes EMPTY: sides discarded, pinned no; its violation flag stays (R84). -/
def Station.emptied (e : Station) : Station := ⟨.empty, false, false, e.violation⟩

/-! ## Kinds of number (R85) -/

/-- Kinds of number (R85). -/
inductive NumberKind where
  | invalid | broadcast | gateway | service | aliasNumber | station | unclaimed
  deriving DecidableEq, Repr

/-- Kinds of number as a byte (R188). -/
def NumberKind.byte : NumberKind → Byte
  | .invalid => 0x01 | .broadcast => 0x02 | .gateway => 0x03 | .service => 0x04 | .aliasNumber => 0x05 | .station => 0x06
  | .unclaimed => 0x07

/-- The group whose service number is `n` (R109). -/
def State.groupOf (s : State) (n : Byte) : Option (Nat × Group) := s.delivery.groups.find? fun g => g.2.service = n

/-- The printer entry that names station number `n` (R149). -/
def State.printerOf (s : State) (n : Byte) : Option (Nat × Printer) := s.delivery.printers.find? fun p => p.2.station = n

/-- The alias entry in use with number `n`. -/
def State.aliasOf (s : State) (n : Byte) : Option (Nat × AliasEntry) := s.table.aliases.find? fun a => a.2.number = n

/-- The alias entry in use with a MAC (R100). -/
def State.aliasOfMac (s : State) (m : Mac) : Option (Nat × AliasEntry) := s.table.aliases.find? fun a => a.2.mac = m

/-- The kind of a number, judged in the order of R85. -/
def State.kindOf (s : State) (n : Byte) : NumberKind :=
  if n = 0 then .invalid
  else if n = 255 then .broadcast
  else if n = s.table.gateway then .gateway
  else if (s.groupOf n).isSome then .service
  else if (s.aliasOf n).isSome then .aliasNumber
  else if (s.table.entry n).isKnown then .station
  else .unclaimed

/-! ## Violations (R87) -/

/-- Whether the violation flag for a source on a segment is set: per number for 1 to 254, per segment for 0 and 255 (R87). -/
def StationTable.flagged (t : StationTable) (n : Byte) (i : SegIx) : Bool :=
  if n = 0 then t.flags0.get i else if n = 255 then t.flags255.get i else (t.entry n).violation

/-- Set that flag. -/
def StationTable.flag (t : StationTable) (n : Byte) (i : SegIx) : StationTable :=
  if n = 0 then { t with flags0 := t.flags0.set i true }
  else if n = 255 then { t with flags255 := t.flags255.set i true }
  else t.setEntry n { t.entry n with violation := true }

/-- An address violation (R87): counted, and noticed when its flag is clear. -/
def State.violate (s : State) (n : Byte) (i : SegIx) (kind : ViolationKind) (pinnedTo : Option SegIx) : State :=
  let s1 := s.countFwd (.segment i) FwdCounters.addViolation
  if s1.table.flagged n i then s1
  else State.notify { s1 with table := s1.table.flag n i } (.addressViolation n i kind pinnedTo)

/-! ## Learning (R86 to R90) -/

/-- A station change for Printer Delivery (R104). -/
def State.stationChanged (s : State) (n : Byte) : State := s.raise (.stationChange n)

/-- A new station entry is held when a printer entry names its number (R97). -/
def State.heldAtOnce (s : State) (n : Byte) : Bool := (s.printerOf n).isSome

/-- Whether an ACTIVE or QUIET entry heard on another segment has moved (R89). -/
def movesAt (k : Known) (silence moveHold : Nat) : Bool :=
  match k with
  | .quiet _ => true
  | _ => moveHold ≤ silence

/-- The side of a DUPLICATE entry that a third segment replaces: the greater silence count, the second on a tie (R90). -/
def replaceSide (first second new : Side) : Known :=
  if second.silence < first.silence then .duplicate new second else .duplicate first new

/-- An ACTIVE or QUIET entry with first side `a` is heard on `i` (R86 to R89). -/
def State.hear (s : State) (n : Byte) (i : SegIx) (e : Station) (a new : Side) : State × Bool :=
  if a.segment = i then
    let s1 := s.setEntry n { e with known := .active new }
    match e.known with
    | .quiet _ => (s1.stationChanged n, true)
    | _ => (s1, true)
  else if e.pinned then (s.violate n i .pinned (some a.segment), false)
  else if movesAt e.known a.silence s.table.moveHold then
    (((s.setEntry n { e with known := .active new }).notify (.stationMoved n a.segment i false)).stationChanged n, true)
  else
    (((s.setEntry n { e with known := .duplicate a new }).notify (.stationConflict n a.segment i false)).stationChanged n, true)

/-- Learning of source `n` heard on segment `i` with a sync index (R86 to R90): the state, and whether the frame goes on. -/
def State.learn (s : State) (n : Byte) (i : SegIx) (sync : SyncIx) : State × Bool :=
  let new : Side := ⟨i, 0, sync⟩
  match s.kindOf n with
  | .invalid => (s.violate n i .invalid none, false)
  | .broadcast => (s.violate n i .invalid none, false)
  | .gateway => (s.violate n i .gateway none, false)
  | .service => (s.violate n i .service none, false)
  | .aliasNumber => (s.violate n i .aliasNumber none, false)
  | _ =>
    let e := s.table.entry n
    match e.known with
    | .empty =>
      (((s.setEntry n { e with known := .active new, held := s.heldAtOnce n }).notify
        (.stationArrived n i sync)).stationChanged n, true)
    | .duplicate a b =>
      if a.segment = i then (s.setEntry n { e with known := .duplicate new b }, true)
      else if b.segment = i then (s.setEntry n { e with known := .duplicate a new }, true)
      else
        let k := replaceSide a b new
        match k with
        | .duplicate x y =>
          (((s.setEntry n { e with known := k }).notify (.stationConflict n x.segment y.segment true)).stationChanged n, true)
        | _ => (s, true)
    | .active a => State.hear s n i e a new
    | .quiet a => State.hear s n i e a new

/-! ## Aging (R91 to R93) -/

/-- A side one aging unit older, saturating at 10 (R91). -/
def Side.age (a : Side) : Side := { a with silence := if a.silence < 10 then a.silence + 1 else a.silence }

/-- One entry at an aging expiry (R92, R93): its new value, the notice it passes, and whether it is a station change. -/
def ageStation (n : Byte) (e : Station) : Station × Option Notice × Bool :=
  match e.known with
  | .empty => (e, none, false)
  | .active a =>
    let b := a.age
    if b.silence < 2 then ({ e with known := .active b }, none, false)
    else if b.silence < 10 || e.pinned || e.held then ({ e with known := .quiet b }, none, true)
    else (e.emptied, some (.stationDeparted n b.segment none false), true)
  | .quiet a =>
    let b := a.age
    if b.silence < 10 || e.pinned || e.held then ({ e with known := .quiet b }, none, false)
    else (e.emptied, some (.stationDeparted n b.segment none false), true)
  | .duplicate a b =>
    let x := a.age
    let y := b.age
    if x.silence < 2 && y.silence < 2 then ({ e with known := .duplicate x y }, none, false)
    else if x.silence < 2 then ({ e with known := .active x }, some (.conflictCleared n x.segment false), true)
    else if y.silence < 2 then ({ e with known := .active y }, some (.conflictCleared n y.segment false), true)
    else ({ e with known := .quiet x }, some (.conflictCleared n x.segment false), true)

/-- Age one number's entry in the state. -/
def State.ageOne (s : State) (k : Nat) : State :=
  let n := BitVec.ofNat 8 k
  let (e, notice, changed) := ageStation n (s.table.entry n)
  let s1 := s.setEntry n e
  let s2 := match notice with
    | some m => s1.notify m
    | none => s1
  if changed then s2.stationChanged n else s2

/-- Clear every violation flag (R91). -/
def StationTable.clearFlags (t : StationTable) : StationTable :=
  { t with
    entries := (t.entries.map fun e => (e.1, { e.2 with violation := false })).filter fun e => e.2 ≠ emptyStation
    flags0 := ⟨false, false, false, false⟩
    flags255 := ⟨false, false, false, false⟩ }

/-- The aging expiry (R91): every entry aged in ascending order of number, every violation flag cleared, the timer started
again. -/
def State.ageAll (s : State) : State :=
  let s1 := (s.table.entries.map Prod.fst).foldl State.ageOne s
  let t := s1.table.clearFlags
  { s1 with table := { t with agingTimer := .running (t.agingUnit * 1000) } }

/-! ## Resolving (R103) -/

/-- Whether segment `i` is FORWARDING. -/
def State.forwards (s : State) (i : SegIx) : Bool := (s.port i).state = .forwarding

/-- Reachable for forwarding; none where the question does not arise (R103). For a DUPLICATE, whose two sides R103 answers
separately, it is yes when either side's segment is FORWARDING (log entry 21). -/
def State.reachable (s : State) (n : Byte) : Option Bool :=
  match s.kindOf n with
  | .invalid => some false
  | .broadcast => none
  | .gateway => none
  | .service => none
  | .aliasNumber => some s.uplink.up
  | .unclaimed => some false
  | .station =>
    match (s.table.entry n).known with
    | .empty => some false
    | .active a => some (s.forwards a.segment)
    | .quiet a => some (s.forwards a.segment)
    | .duplicate a b => some (s.forwards a.segment || s.forwards b.segment)

/-- The unreachable reason of a number, none when it is printable-reachable (R103). -/
def State.unreachable (s : State) (n : Byte) : Option UnreachReason :=
  match s.kindOf n with
  | .aliasNumber => if s.uplink.up then none else some .uplinkDown
  | .station =>
    match (s.table.entry n).known with
    | .empty => some .notHeard
    | .active a => if s.forwards a.segment then none else some .segmentDown
    | .quiet a => if s.forwards a.segment then none else some .segmentDown
    | .duplicate _ _ => some .conflict
  | _ => some .notHeard

/-- How a printer's number is reached from here: its station's segment with the side's sync index, or its alias's MAC
(R140, R156). -/
def State.routeTo (s : State) (n : Byte) : Option Route :=
  match s.kindOf n with
  | .aliasNumber => (s.aliasOf n).map fun a => .uplink a.2.mac
  | .station =>
    match (s.table.entry n).known with
    | .active a => some (.segment a.segment (syncOne a.sync))
    | .quiet a => some (.segment a.segment (syncOne a.sync))
    | _ => none
  | _ => none

/-! ## Holds (R97) -/

/-- Ask for a hold on a number: whether it is taken, and the table after it (R97). -/
def State.hold (s : State) (n : Byte) : Option State :=
  match s.kindOf n with
  | .station => some (s.setEntry n { s.table.entry n with held := true })
  | .aliasNumber => some s
  | _ => none

/-- Release the hold on a number (R97). -/
def State.release (s : State) (n : Byte) : State :=
  if (s.table.entry n).isKnown then s.setEntry n { s.table.entry n with held := false } else s

end Sys2Proof.Machine
end

