-- ==== Sys2Proof/Machine/DeliveryOps.lean ====
section
/-! DEFINITION. Printer Delivery (chapter 9): the job table as delivery sees it, blocks, printer states, binding, and the
finish of a job. -/

namespace Sys2Proof.Machine

/-! ## Jobs and printers -/

/-- The job with a number, if the table has it. -/
def State.job (s : State) (n : Half) : Option Job := s.intake.jobs.find? fun j => j.number = n

/-- Replace the record of the job with the same number. -/
def State.setJob (s : State) (j : Job) : State :=
  { s with intake := { s.intake with jobs := s.intake.jobs.map fun k => if k.number = j.number then j else k } }

/-- Free a job's table entry (R144). -/
def State.dropJob (s : State) (n : Half) : State :=
  { s with intake := { s.intake with jobs := s.intake.jobs.filter fun k => k.number ≠ n } }

/-- The printer entry numbered `p`, if it is in use. -/
def State.printer (s : State) (p : Nat) : Option Printer := tableGet s.delivery.printers p

/-- Replace a printer entry. -/
def State.setPrinter (s : State) (p : Nat) (e : Printer) : State :=
  { s with delivery := { s.delivery with printers := tablePut s.delivery.printers p e } }

/-- The group entry numbered `g`, if it is in use. -/
def State.group (s : State) (g : Nat) : Option Group := tableGet s.delivery.groups g

/-- The groups of which a printer is a member, ascending. -/
def State.groupsOf (s : State) (p : Nat) : List Nat :=
  (s.delivery.groups.filter fun g => g.2.members.contains p).map Prod.fst

/-- The job at the head of a printer's queue. -/
def State.headJob (s : State) (e : Printer) : Option Job := e.queue.head?.bind s.job

/-- A head job in PRINTING, HELD or ENDING holds the head (R155). -/
def DeliveryState.holdsHead : DeliveryState → Bool
  | .printing => true
  | .held => true
  | .ending => true
  | _ => false

/-! ## Frames to printers (R140, R156) -/

/-- Offer a frame from the gateway number to a printer's number by the port that reaches it; where none does, it is not
sent. -/
def State.offerToPrinter (s : State) (station : Byte) (source : PayloadSource) (h : Header) : State :=
  match s.routeTo station with
  | some r => (s.offerService r source h).1
  | none => s

/-- Offer a JOB_ABORT to a printer (R140). -/
def State.sendAbort (s : State) (station : Byte) : State :=
  s.offerToPrinter station .nothing (emptyHeader station s.table.gateway typeJobAbort 0)

/-- Offer a block in flight, first time or again: its header from the record and the gateway number in force, its span from
offset 0 of its page (R156, R158, R101; log entry 18). -/
def State.offerFlight (s : State) (station : Byte) (f : Flight) : State :=
  s.offerToPrinter station
    (match f.page with
      | some p => .span p 0 f.count
      | none => .nothing)
    ⟨station, s.table.gateway, typePrintBlock, printControl f.first f.last f.urgent f.seq, BitVec.ofNat 16 f.count⟩

/-- The block the head job sends next: its page, its byte count and its LAST flag (R156). -/
def Job.nextBlock (j : Job) : Option (Option Nat × Nat × Bool) :=
  let count := min 256 (j.received - j.delivered)
  match j.isOpen, j.chain with
  | true, [] => none
  | true, [p] => if count = 256 then some (some p, count, false) else none
  | true, p :: _ :: _ => some (some p, count, false)
  | false, [] => some (none, 0, true)
  | false, [p] => some (some p, count, true)
  | false, p :: _ :: _ => some (some p, count, false)

/-- A PRINTING head with no block in flight sends its next block, if it has one (R156). -/
def State.sendNext (s : State) (p : Nat) : State :=
  match s.printer p with
  | none => s
  | some e =>
    match s.headJob e, e.flight with
    | some j, none =>
      if j.delivery = .printing then
        match j.nextBlock with
        | some (page, count, last) =>
          let first := j.delivered = 0
          let f : Flight :=
            { job := j.number, seq := j.printerSeq, first := first, last := last, urgent := first && j.urgent, count := count,
              page := page, outstanding := true }
          let s1 := s.offerFlight e.station f
          let s2 := s1.setPrinter p { e with flight := some f, blockTimer := .running e.blockTimeout }
          s2.setJob { j with blockOffered := true }
        | none => s
      else s
    | _, _ => s

/-- A READY printer starts its QUEUED or HELD head (R156). -/
def State.startHead (s : State) (p : Nat) : State :=
  match s.printer p with
  | none => s
  | some e =>
    match s.headJob e with
    | some j =>
      match j.delivery with
      | .queued => (s.setJob { j with delivery := .printing, printerSeq := e.nextSeq }).sendNext p
      | .held => (s.setJob { j with delivery := .printing }).sendNext p
      | _ => s
    | none => s

/-! ## Finish (R144, R160, R161) -/

/-- Release every page of a job's chain; print-block entries of its pages are withdrawn (R128, R159). -/
def State.releaseChain (s : State) (j : Job) : State :=
  j.chain.foldl State.withdrawPage (s.setJob { j with chain := [] })

/-- A job leaves a printer's queue. When it was the head, the block in flight becomes none, the resend count 0, and the
printer's timers stop (R160, R164; log entry 19). -/
def Printer.leave (e : Printer) (n : Half) : Printer :=
  let rest := e.queue.filter (· ≠ n)
  if e.queue.head? = some n then
    { e with queue := rest, flight := none, resends := 0, blockTimer := .stopped, retryTimer := .stopped, endTimer := .stopped }
  else { e with queue := rest }

/-- The printer's estimated rate after a PRINTED finish (R161). -/
def updatedRate (r delivered active : Nat) : Nat := clamp 50 65535 ((3 * r + delivered * 1000 / active) / 4)

/-- What a finish does to the printer: its rate on PRINTED (R161), STOPPED when stop-after-job is on and the job had been HELD
or ENDING there (R160). -/
def Printer.finished (e : Printer) (j : Job) (outcome : JobOutcome) : Printer :=
  let e1 := e.leave j.number
  let e2 := if outcome = .printed && 1 ≤ j.activeTime then { e1 with rate := updatedRate e.rate j.delivered j.activeTime } else e1
  if e.stopAfter && (j.delivery = .held || j.delivery = .ending) then { e2 with pause := { e2.pause with stopped := true } } else e2

/-- The JOB_DONE of a job (R145). -/
def State.jobReport (s : State) (j : Job) (outcome : JobOutcome) : JobReport :=
  { number := j.number, outcome := outcome, source := j.source, origin := j.origin, service := j.service, urgent := j.urgent,
    received := j.received, delivered := j.delivered
    printer := match j.printer with
      | some p => (s.printer p).map fun e => (p, e.station)
      | none => none }

/-- A job finishes with an outcome: pages released, out of its queue, JOB_DONE, its entry freed, in this order (R144). -/
def State.finishJob (s : State) (j : Job) (outcome : JobOutcome) : State :=
  let s1 := s.releaseChain j
  let s2 := match j.printer with
    | some p =>
      match s1.printer p with
      | some e => s1.setPrinter p (e.finished j outcome)
      | none => s1
    | none => s1
  (s2.notify (.jobDone (s.jobReport j outcome))).dropJob j.number

/-- Entry to ENDING: no block in flight, block and retry timers stopped, the end timer started (R160). -/
def State.enterEnding (s : State) (j : Job) : State :=
  let s1 := s.setJob { j with delivery := .ending }
  match j.printer with
  | some p =>
    match s1.printer p with
    | some e => s1.setPrinter p { e with
        flight := none
        blockTimer := .stopped
        retryTimer := .stopped
        endTimer := .running (e.endTimeout * 1000) }
    | none => s1
  | none => s1

/-! ## Printer state (R151) -/

/-- The state of a printer entry in use, by the first line of R151 that fits. -/
def State.printerState (s : State) (e : Printer) : PrinterState :=
  let busy := match s.headJob e with
    | some j => j.delivery = .printing || j.delivery = .ending
    | none => false
  if (s.unreachable e.station).isSome then .unreachable
  else if !e.pause.isClear && !busy then .paused
  else if busy then .busy
  else .ready

/-- A printer is eligible while it is printable-reachable and has no pause reason (R151). -/
def State.eligible (s : State) (e : Printer) : Bool := (s.unreachable e.station).isNone && e.pause.isClear

/-- Whether the last evaluation found the printer eligible. -/
def Printer.foundEligible (e : Printer) : Bool :=
  e.found ≠ .absent && e.found ≠ .unreachable && e.foundPause.isClear

/-- The evaluation's finding: when the state, the reason or the pause reasons differ from the last one found, a PRINTER_STATE
notice is passed (R151). -/
def State.noteState (s : State) (p : Nat) : State :=
  match s.printer p with
  | none => s
  | some e =>
    let st := s.printerState e
    let reason := if st = .unreachable then s.unreachable e.station else none
    if st = e.found && reason = e.foundReason && e.pause = e.foundPause then s
    else
      (s.setPrinter p { e with found := st, foundReason := reason, foundPause := e.pause }).notify
        (.printerState p e.station e.found st reason e.pause)

/-! ## Rebinding (R164) -/

/-- A job returns from its printer to its group's wait list (R153, R164); when it was the head, a print-block entry of its page
still queued is withdrawn, and the page stays in its chain. A job that may leave has delivered nothing, so its block's page is
the first of its chain (R156). -/
def State.returnJob (s : State) (j : Job) : State :=
  let s1 := s.setJob { j with delivery := .waiting, printer := none, blockOffered := false }
  match j.printer with
  | some p =>
    match s1.printer p with
    | some e =>
      let s2 := s1.setPrinter p (e.leave j.number)
      if e.queue.head? = some j.number then
        match j.chain.head? with
        | some page => s2.withdrawPage page
        | none => s2
      else s2
    | none => s1
  | none => s1

/-- A HELD head that had been offered a block is stopped at its printer before it leaves, when the printer is
printable-reachable (R164, R165). -/
def State.abortIfOffered (s : State) (e : Printer) (j : Job) : State :=
  if j.delivery = .held && j.blockOffered && (s.unreachable e.station).isNone then s.sendAbort e.station else s

/-- A job that may leave its printer: QUEUED, or a HELD head with nothing delivered (R164, R165). -/
def Job.mayLeave (j : Job) : Bool := j.delivery = .queued || (j.delivery = .held && j.delivered = 0)

/-- Whether the job's group is defined with its rebind flag on (R164, R166). -/
def State.rebinds (s : State) (j : Job) : Bool :=
  match j.group.bind s.group with
  | some g => g.rebind
  | none => false

/-- The groups a printer's emptied queue has binding tried in (R153). -/
def State.emptiedGroups (s : State) (p : Nat) (before : Printer) : List Nat :=
  match s.printer p with
  | some e => if e.queue = [] && before.queue ≠ [] then s.groupsOf p else []
  | none => []

/-- What an evaluation that finds a printer UNREACHABLE or PAUSED does (R164); answers the groups to try binding in. -/
def State.losePrinter (s : State) (p : Nat) : State × List Nat :=
  match s.printer p with
  | none => (s, [])
  | some e =>
    let s1 := match s.headJob e with
      | some j =>
        if j.delivery = .ending && (s.unreachable e.station).isSome then s.finishJob j (j.pendingOutcome.getD .unconfirmed)
        else if j.delivery = .printing then s.setJob { j with delivery := .held }
        else s
      | none => s
    let leaving := (e.queue.filterMap s1.job).filter fun j => j.mayLeave && s1.rebinds j
    let s2 := leaving.foldl (fun s j => (s.abortIfOffered e j).returnJob j) s1
    (s2, leaving.filterMap (·.group) ++ s2.emptiedGroups p e)

/-- Taking a printer's state as evaluation finds it (R151): the finding is noticed, and an UNREACHABLE or PAUSED printer takes
R164. Answers the groups to try binding in: those that received a job, and all of the printer's when it has become eligible. -/
def State.takeFinding (s : State) (p : Nat) : State × List Nat :=
  match s.printer p with
  | none => (s, [])
  | some e =>
    let lost := s.printerState e = .unreachable || s.printerState e = .paused
    let s1 := s.noteState p
    let (s2, freed) := if lost then s1.losePrinter p else (s1, [])
    let s3 := s2.noteState p
    (s3, freed ++ if s.eligible e && !e.foundEligible then s3.groupsOf p else [])

/-- A printer found READY starts a waiting head (R151, R156). -/
def State.startIfReady (s : State) (p : Nat) : State :=
  match s.printer p with
  | some e => if s.printerState e = .ready then s.startHead p else s
  | none => s

/-- Evaluation of a printer (R151): a READY printer starts a waiting head (R156), and the finding is taken. -/
def State.evaluate (s : State) (p : Nat) : State × List Nat := (s.startIfReady p).takeFinding p

/-! ## Binding (R153 to R155) -/

/-- Whether a waiting job is bindable under threshold `e` and quota `q` (R153). -/
def Job.bindable (j : Job) (e q : Nat) : Bool := !j.isOpen || (1 ≤ e && max 1 (e * q / 8) ≤ j.chain.length)

/-- A group's wait list: its WAITING jobs in the order of the job table (R153). -/
def State.waitList (s : State) (g : Nat) : List Job :=
  s.intake.jobs.filter fun j => j.group = some g && j.delivery = .waiting

/-- The job a try takes: the oldest bindable URGENT one, or else the oldest bindable NORMAL one (R153). -/
def State.pickJob (s : State) (g : Nat) (threshold : Nat) : Option Job :=
  let ready := (s.waitList g).filter fun j => j.bindable threshold s.pool.quota
  match ready.find? fun j => j.urgent with
  | some j => some j
  | none => ready.head?

/-- The bytes queued to a printer (R154). -/
def State.queuedBytes (s : State) (e : Printer) : Nat :=
  ((e.queue.filterMap s.job).map fun j => j.received - j.delivered).sum

/-- The drain estimate D of a printer, in ms (R154). -/
def State.drain (s : State) (e : Printer) : Nat := s.queuedBytes e * 1000 / e.rate

/-- The better of two members under BALANCED: the smaller D, the lower number on a tie (R154). -/
def betterMember (best : Option (Nat × Nat)) (p d : Nat) : Option (Nat × Nat) :=
  match best with
  | none => some (p, d)
  | some (q, e) => if d < e || (d = e && p < q) then some (p, d) else some (q, e)

/-- The printer for a job of group `g` (R154). -/
def State.choosePrinter (s : State) (g : Group) : Option Nat :=
  let members := g.members.filterMap fun p => (s.printer p).map fun e => (p, e)
  let able := members.filter fun m => s.eligible m.2
  if g.balanced then (able.foldl (fun best m => betterMember best m.1 (s.drain m.2)) none).map Prod.fst
  else (able.find? fun m => m.2.queue = []).map Prod.fst

/-- Place a newly bound job in a printer's queue by urgency; a head in PRINTING, HELD or ENDING is never passed (R155). -/
def State.enqueue (s : State) (queue : List Half) (j : Job) : List Half :=
  if j.urgent then
    let isUrgent (n : Half) : Bool := match s.job n with
      | some k => k.urgent
      | none => false
    let holds (n : Half) : Bool := match s.job n with
      | some k => k.delivery.holdsHead
      | none => false
    let head := match queue with
      | n :: _ => if holds n then [n] else []
      | [] => []
    let rest := queue.drop head.length
    head ++ rest.takeWhile isUrgent ++ j.number :: rest.dropWhile isUrgent
  else queue ++ [j.number]

/-- Bind a job to a printer (R154, R155). -/
def State.bind (s : State) (j : Job) (p : Nat) : State :=
  match s.printer p with
  | some e =>
    (s.setPrinter p { e with queue := s.enqueue e.queue j }).setJob { j with delivery := .queued, printer := some p }
  | none => s

/-- A binding try in a group (R153): bind the job the try takes and start over, until no job is bindable or no printer is
chosen. `fuel` bounds the jobs bound; answers further groups to try. -/
def State.tryGroup : Nat → State → Nat → State × List Nat
  | 0, s, _ => (s, [])
  | fuel + 1, s, g =>
    match s.group g with
    | none => (s, [])
    | some grp =>
      match s.pickJob g grp.threshold, s.choosePrinter grp with
      | some j, some p =>
        let (s1, more) := (s.bind j p).evaluate p
        let (s2, rest) := State.tryGroup fuel s1 g
        (s2, more ++ rest)
      | _, _ => (s, [])

/-- More tries than the 64 jobs of the table allow (R132). -/
def tryFuel : Nat := 65

/-- More rounds than the 16 printers that could become eligible in one event (R149). -/
def roundFuel : Nat := 17

/-- The group numbers in ascending order (R152). -/
def groupNumbers : List Nat := [0, 1, 2, 3, 4, 5, 6, 7]

/-- One round of tries over groups in ascending order, each to its end before the next begins (R153). -/
def State.tryGroups (s : State) (gs : List Nat) : State × List Nat :=
  (groupNumbers.filter gs.contains).foldl
    (fun (acc : State × List Nat) g =>
      let (s1, more) := State.tryGroup tryFuel acc.1 g
      (s1, acc.2 ++ more)) (s, [])

/-- Try binding in the groups given, and in those where a printer becomes eligible on the way (R151, R153). The groups called for
in the middle of the tries are tried in a further round, ascending again, after the present one (log entry 47). -/
def State.bindRounds : Nat → State → List Nat → State
  | 0, s, _ => s
  | _ + 1, s, [] => s
  | fuel + 1, s, g :: gs =>
    let (s1, more) := s.tryGroups (g :: gs)
    State.bindRounds fuel s1 more

/-- Try binding in groups (R153). -/
def State.bindIn (s : State) (gs : List Nat) : State := State.bindRounds roundFuel s gs

/-- The close of a Printer Delivery event that touched a printer: evaluation, then binding where it and the event call for
it (R151, R153). -/
def State.touch (s : State) (p : Nat) (gs : List Nat) : State :=
  let (s1, more) := s.evaluate p
  s1.bindIn (gs ++ more)

/-! ## Answers and status from a printer (R157, R158, R162) -/

/-- The head job of a printer is finished on it; then the printer is evaluated again and starts its next head (R160). -/
def State.finishHere (s : State) (p : Nat) (e : Printer) (j : Job) (outcome : JobOutcome) : State :=
  let s1 := s.finishJob j outcome
  s1.touch p (s1.emptiedGroups p e)

/-- An ACCEPTED answer to the outstanding block `f` of job `j` on printer `p` (R157, R160). -/
def State.acceptBlock (s : State) (p : Nat) (e : Printer) (f : Flight) (j : Job) : State :=
  let chain := if f.page.isSome then j.chain.drop 1 else j.chain
  let j1 := { j with delivered := j.delivered + f.count, chain := chain, printerSeq := j.printerSeq + 1 }
  let e1 := { e with nextSeq := e.nextSeq + 1, resends := 0, flight := none, blockTimer := .stopped }
  let s1 := (s.setJob j1).setPrinter p e1
  let s2 := match f.page with
    | some page => s1.withdrawPage page
    | none => s1
  if f.last then
    if j.delivery = .held && (s2.unreachable e.station).isSome then
      s2.finishHere p e1 j1 (j1.pendingOutcome.getD .unconfirmed)
    else (s2.enterEnding j1).touch p []
  else if j.delivery = .printing then (s2.sendNext p).touch p []
  else s2.touch p []

/-- An expiry of the block timer, or a REFUSED answer taken as one (R157, R158). -/
def State.blockExpired (s : State) (p : Nat) (e : Printer) (f : Flight) (j : Job) : State :=
  if j.delivery = .printing then
    if e.resends < 3 then
      ((s.offerFlight e.station f).setPrinter p
        { e with resends := e.resends + 1, blockTimer := .running e.blockTimeout }).touch p []
    else
      ((s.setPrinter p { e with
          flight := none
          resends := 0
          blockTimer := .stopped
          pause := { e.pause with noResponse := true } }).setJob { j with delivery := .held }).touch p []
  else (s.setPrinter p { e with flight := none, blockTimer := .stopped }).touch p []

/-- A BLOCK_ACK from number `src` with a control field (R157). -/
def State.blockAck (s : State) (src ctl : Byte) : State :=
  match s.printerOf src with
  | none => s
  | some (p, e) =>
    match e.flight, s.headJob e with
    | some f, some j =>
      if f.outstanding && f.seq = ctlSeq ctl then
        if ctlAck ctl = ackAccepted then s.acceptBlock p e f j
        else if ctlAck ctl = ackRetry then
          (s.setPrinter p { e with
            flight := some { f with outstanding := false }
            blockTimer := .stopped
            retryTimer := .running 200 }).touch p []
        else if ctlAck ctl = ackRefused then s.blockExpired p e f j
        else s
      else s
    | _, _ => s

/-- The control bytes of PRINTER_STATUS (R181). -/
def statusReady : Byte := 0x01
def statusOffline : Byte := 0x02
def statusPaperOut : Byte := 0x03
def statusEndOfJob : Byte := 0x04

/-- A PRINTING head goes HELD, keeping its block in flight (R162, R163). -/
def State.holdHead (s : State) (e : Printer) : State :=
  match s.headJob e with
  | some j => if j.delivery = .printing then s.setJob { j with delivery := .held } else s
  | none => s

/-- A PRINTER_STATUS from number `src` with a control byte (R162). -/
def State.printerStatus (s : State) (src ctl : Byte) : State :=
  match s.printerOf src with
  | none => s
  | some (p, e) =>
    if ctl = statusReady then
      (s.setPrinter p { e with pause := { e.pause with
        offline := false
        paperOut := false
        noResponse := false
        noEnd := false } }).touch p []
    else if ctl = statusOffline then
      ((s.setPrinter p { e with pause := { e.pause with offline := true } }).holdHead e).touch p []
    else if ctl = statusPaperOut then
      ((s.setPrinter p { e with pause := { e.pause with paperOut := true } }).holdHead e).touch p []
    else if ctl = statusEndOfJob then
      match s.headJob e with
      | some j =>
        if j.delivery = .ending then s.finishHere p e j (j.pendingOutcome.getD .printed)
        else (s.setPrinter p { e with pause := { e.pause with noEnd := false, noResponse := false } }).touch p []
      | none => (s.setPrinter p { e with pause := { e.pause with noEnd := false, noResponse := false } }).touch p []
    else s

end Sys2Proof.Machine
end

