-- ==== Sys2Proof/Machine/IntakeOps.lean ====
section
/-! DEFINITION. Print Intake (chapter 8): keys, judging a block, opening, appending, closing, ending, the answer. -/

namespace Sys2Proof.Machine

/-- A PRINT_BLOCK as the Forwarding Engine hands it to Print Intake (R109): its source number, origin, group and service
number, control field and payload, and the way back to its sender. -/
structure PrintBlock where
  source : Byte
  origin : Origin
  group : Nat
  service : Byte
  ctl : Byte
  payload : List Byte
  back : Route
  deriving DecidableEq, Repr

/-- Entries of the job table (R132). -/
def jobCapacity : Nat := 64

/-- The largest received-bytes figure (R133). -/
def maxReceived : Nat := 4294967295

/-- Whether a job has the key of a block: source number, origin and group (R134). -/
def Job.hasKey (j : Job) (b : PrintBlock) : Bool := j.source = b.source && j.origin = b.origin && j.group = some b.group

/-- The jobs of a block's key, in the order in which they were opened. -/
def State.keyJobs (s : State) (b : PrintBlock) : List Job := s.intake.jobs.filter fun j => j.hasKey b

/-- The latest job of a key (R134). -/
def State.latestJob (s : State) (b : PrintBlock) : Option Job := (s.keyJobs b).getLast?

/-- The open job of a key (R134). -/
def State.openJobOf (s : State) (b : PrintBlock) : Option Job := (s.keyJobs b).find? fun j => j.isOpen

/-! ## Counters (R148) -/

/-- Count on the intake counters. -/
def State.countIntake (s : State) (f : IntakeCounters → IntakeCounters) : State :=
  { s with intake := { s.intake with counters := f s.intake.counters } }

def IntakeCounters.addStored (c : IntakeCounters) : IntakeCounters := { c with stored := c.stored + 1 }
def IntakeCounters.addResends (c : IntakeCounters) : IntakeCounters := { c with resends := c.resends + 1 }
def IntakeCounters.addRetries (c : IntakeCounters) : IntakeCounters := { c with retries := c.retries + 1 }
def IntakeCounters.addRefused (c : IntakeCounters) : IntakeCounters := { c with refused := c.refused + 1 }
def IntakeCounters.addIgnored (c : IntakeCounters) : IntakeCounters := { c with ignored := c.ignored + 1 }
def IntakeCounters.addLost (c : IntakeCounters) : IntakeCounters := { c with answersLost := c.answersLost + 1 }

/-! ## The answer (R139) -/

/-- Offer a BLOCK_ACK for a block; an answer the queue refuses is counted as lost (R139). -/
def State.answerBlock (s : State) (b : PrintBlock) (status : BitVec 2) : State :=
  let (s1, r) := s.offerService b.back .nothing
    (emptyHeader b.source b.service typeBlockAck (ackControl status (ctlSeq b.ctl)))
  if r = .taken then s1 else s1.countIntake IntakeCounters.addLost

/-- Answer RETRY, and count it (R136, R137, R148). -/
def State.retryBlock (s : State) (b : PrintBlock) : State := (s.countIntake IntakeCounters.addRetries).answerBlock b ackRetry

/-- Answer REFUSED, and count it (R135, R137, R148). -/
def State.refuseBlock (s : State) (b : PrintBlock) : State := (s.countIntake IntakeCounters.addRefused).answerBlock b ackRefused

/-! ## Ending a job (R140) -/

/-- The outcome by which Print Intake ends a job. -/
inductive EndCause where
  | abandoned | cancelled
  deriving DecidableEq, Repr

/-- The job outcome of an ending (R140, R143). -/
def EndCause.outcome : EndCause → JobOutcome
  | .abandoned => .abandoned
  | .cancelled => .cancelled

/-- A job has finished on its printer: the printer is evaluated in this event (R140, R151); the start of its next head and the
binding of an emptied queue are left for an event of their own (R144's last paragraph; log entry 17). -/
def State.leavePrinter (s : State) (j : Job) : State :=
  match j.printer with
  | some p => ((s.takeFinding p).1.bindIn (s.takeFinding p).2).raise (.jobEnded p)
  | none => s

/-- A job has gone to ENDING on its printer: the printer is evaluated in this event (R140, R151). -/
def State.touchPrinter (s : State) (j : Job) : State :=
  match j.printer with
  | some p => s.touch p []
  | none => s

/-- The job goes to ENDING: its chain released, the pending outcome set, the end timer started, a JOB_ABORT offered (R140,
R160). -/
def State.stopAtPrinter (s : State) (j : Job) (cause : EndCause) : State :=
  let s1 := s.releaseChain j
  let j1 := { j with chain := [], pendingOutcome := some cause.outcome }
  let s2 := s1.enterEnding j1
  match j.printer.bind s2.printer with
  | some e => s2.sendAbort e.station
  | none => s2

/-- Whether the job's printer is printable-reachable. -/
def State.printerReachable (s : State) (j : Job) : Bool :=
  match j.printer.bind s.printer with
  | some e => (s.unreachable e.station).isNone
  | none => false

/-- End a job (R140), one event of Print Intake and Printer Delivery together, which evaluates the printer it touches (R151). -/
def State.endJob (s : State) (j : Job) (cause : EndCause) : State :=
  let j1 := { j with isOpen := false, idleTimer := .stopped }
  let s1 := s.setJob j1
  match j.delivery with
  | .waiting => s1.finishJob j1 cause.outcome
  | .queued => (s1.finishJob j1 cause.outcome).leavePrinter j
  | .printing => (s1.stopAtPrinter j1 cause).touchPrinter j
  | .held =>
    if s1.printerReachable j1 then (s1.stopAtPrinter j1 cause).touchPrinter j
    else (s1.finishJob j1 cause.outcome).leavePrinter j
  | .ending => s1.setJob { j1 with pendingOutcome := some cause.outcome }

/-! ## Opening a job (R136) -/

/-- The job number after `n`, 65535 giving 1 (R136). -/
def numberAfter (n : Half) : Half := if n = 65535 then 1 else n + 1

/-- The first number from `n` upward that no job has; the first argument bounds the numbers looked at (R136). -/
def freeNumber (used : List Half) : Nat → Half → Half
  | 0, n => n
  | fuel + 1, n => if used.contains n then freeNumber used fuel (numberAfter n) else n

/-- The record a FIRST block fills (R136). -/
def State.newJob (s : State) (b : PrintBlock) (number : Half) (pages : List Nat) : Job :=
  { number := number, source := b.source, origin := b.origin, group := some b.group, service := b.service,
    urgent := ctlUrgent b.ctl, isOpen := !ctlLast b.ctl, lastSeq := ctlSeq b.ctl, lastFirst := true,
    expected := ctlSeq b.ctl + 1, received := b.payload.length, chain := pages, lastActivity := s.time.seconds,
    idleTimer := if ctlLast b.ctl then .stopped else .running (s.intake.idleTime * 1000), pendingOutcome := none,
    delivery := .waiting, delivered := 0, printer := none, printerSeq := Config.unsetPrinterSequence s.draws,
    blockOffered := false, activeTime := 0 }

/-- Printer Delivery is told of a job's opening, growth or closing (R138). -/
def State.tell (s : State) (j : Job) : State := s.raise (.jobChange j.number j.group)

/-- Told once more when the block closes the job (R138). -/
def State.tellClosed (s : State) (j : Job) (last : Bool) : State := if last then s.tell j else s

/-- Steps 4 to 8 of R136, with the pages granted. -/
def State.fillJob (s : State) (b : PrintBlock) (pages : List Nat) : State :=
  let number := freeNumber (s.intake.jobs.map Job.number) (jobCapacity + 1) s.intake.nextNumber
  let j := s.newJob b number pages
  let s1 := (s.draw).writeJobData pages 0 b.payload
  let s2 := State.noteLowest { s1 with intake := { s1.intake with
    jobs := s1.intake.jobs ++ [j]
    nextNumber := numberAfter number } }
  (((s2.tell j).tellClosed j (ctlLast b.ctl)).countIntake IntakeCounters.addStored).answerBlock b ackAccepted

/-- A FIRST block (R136). -/
def State.openJob (s : State) (b : PrintBlock) : State :=
  let s1 := match s.openJobOf b with
    | some j => s.endJob j .abandoned
    | none => s
  if jobCapacity ≤ s1.intake.jobs.length then s1.retryBlock b
  else
    match s1.judgePrint 0 (ceilDiv (max b.payload.length 1) 256) with
    | .quota => s1.countQuotaRefusal.retryBlock b
    | .reserve => s1.countReserveRefusal.retryBlock b
    | .granted pages => s1.fillJob b pages

/-! ## Appending to a job (R137) -/

/-- The record of a job after a block has been appended (R137, R138). -/
def State.grownJob (s : State) (b : PrintBlock) (j : Job) (pages : List Nat) : Job :=
  { j with
    received := j.received + b.payload.length
    chain := j.chain ++ pages
    lastSeq := ctlSeq b.ctl
    lastFirst := false
    expected := j.expected + 1
    lastActivity := s.time.seconds
    isOpen := !ctlLast b.ctl
    idleTimer := if ctlLast b.ctl then .stopped else .running (s.intake.idleTime * 1000) }

/-- The pages an append writes over, the tail page first when it has room, and the offset it starts at (R137). -/
def Job.appendSpan (j : Job) (pages : List Nat) : List Nat × Nat :=
  if tailRoom j.received = 0 then (pages, 0)
  else
    match j.chain.getLast? with
    | some tail => (tail :: pages, j.received % 256)
    | none => (pages, 0)

/-- Store a block in its open job, with the pages granted (R137). -/
def State.growJob (s : State) (b : PrintBlock) (j : Job) (pages : List Nat) : State :=
  let j1 := s.grownJob b j pages
  let span := j.appendSpan pages
  let s1 := ((s.writeJobData span.1 span.2 b.payload).setJob j1).noteLowest
  (((s1.tell j1).tellClosed j1 (ctlLast b.ctl)).countIntake IntakeCounters.addStored).answerBlock b ackAccepted

/-- An expected block of the open job `j` (R137). DESIGN CHOICE (log entry 48): the limit on the received bytes is judged before the
allocation, so a block that fails both is REFUSED and counts no pool refusal. -/
def State.appendBlock (s : State) (b : PrintBlock) (j : Job) : State :=
  if maxReceived < j.received + b.payload.length then s.refuseBlock b
  else
    match s.judgePrint j.chain.length (appendPages j.received b.payload.length) with
    | .quota => s.countQuotaRefusal.retryBlock b
    | .reserve => s.countReserveRefusal.retryBlock b
    | .granted pages => s.growJob b j pages

/-! ## Judging a block (R135) -/

/-- A resend of the last block stored in the key's latest job, one not given up (R135, line 1). -/
def Job.isResend (j : Job) (b : PrintBlock) : Bool :=
  j.pendingOutcome = none && j.lastSeq = ctlSeq b.ctl && j.lastFirst = ctlFirst b.ctl

/-- Print Intake takes a PRINT_BLOCK (R135). -/
def State.takeBlock (s : State) (b : PrintBlock) : State :=
  let resend := match s.latestJob b with
    | some j => j.isResend b
    | none => false
  if resend then (s.countIntake IntakeCounters.addResends).answerBlock b ackAccepted
  else if ctlFirst b.ctl then s.openJob b
  else
    match s.openJobOf b with
    | none => s.refuseBlock b
    | some j => if ctlSeq b.ctl = j.expected then s.appendBlock b j else s.countIntake IntakeCounters.addIgnored

end Sys2Proof.Machine
end

