-- ==== Sys2Proof/Machine/ForwardOps.lean ====
section
/-! DEFINITION. The Forwarding Engine (R106 to R115) and the judging of tunnel frames (R119 to R122). -/

namespace Sys2Proof.Machine

/-- A frame with its origin, as the engine takes it (R106), and the way its answers go back (R113). A segment's frame travels
with its sync index, which `back` holds, and with `marginal` (R8, R14); a tunnel frame has no sync word and is not marginal. -/
structure Arrival where
  origin : Origin
  back : Route
  marginal : Bool
  frame : Frame
  deriving DecidableEq, Repr

/-! ## Storage and copies (R114) -/

/-- Offer one copy of a stored frame to a port of the destination list, and count a refusal (R114). -/
def State.offerCopy (o : Origin) (frame : Nat) (h : Header) (s : State) (dest : Route) : State :=
  match dest with
  | .segment i set =>
    match s.offerSegment i false ⟨.stored frame, h, set⟩ with
    | (s1, .taken) => s1
    | (s1, .full) => s1.countFwd (.segment i) FwdCounters.addTailDrop
    | (s1, .unreachable) => s1.countFwd o FwdCounters.addUnreachable
  | .uplink mac =>
    match s.offerUplink false ⟨.stored frame, h, mac⟩ with
    | (s1, .taken) => s1
    | (s1, .full) => s1.countFwd .uplink FwdCounters.addTailDrop
    | (s1, .unreachable) => s1.countFwd o FwdCounters.addUnreachable

/-- Send a frame on to a non-empty destination list, ports ascending and the uplink last (R114). -/
def State.sendOn (s : State) (o : Origin) (f : Frame) (dests : List Route) : State :=
  match s.storeFrame f with
  | none => s.countFwd o FwdCounters.addNoBuffer
  | some (name, s1) => (dests.foldl (State.offerCopy o name f.header) s1).freeIfUnreferenced name

/-- Send a frame on, or filter it when its destination list is empty (R107, R112, R115). -/
def State.sendOrFilter (s : State) (o : Origin) (f : Frame) (dests : List Route) : State :=
  match dests with
  | [] => s.countFwd o FwdCounters.addFiltered
  | _ => s.sendOn o f dests

/-! ## Destinations (R107, R112) -/

/-- The FORWARDING segments other than the origin, ascending. -/
def State.otherForwarding (s : State) (o : Origin) : List SegIx := segments.filter fun i => s.forwards i && o ≠ .segment i

/-- Those segments, with the sync set of every enabled entry (R107, R112). -/
def State.floodList (s : State) (o : Origin) : List Route :=
  (s.otherForwarding o).map fun i => .segment i (enabledSet s.syncs)

/-- The broadcast set (R107). -/
def State.broadcastList (s : State) (o : Origin) : List Route :=
  s.floodList o ++ if o ≠ .uplink && s.uplink.broadcast && s.uplink.up then [.uplink broadcastMac] else []

/-- A frame for a station or an unclaimed number (R112). -/
def State.forwardStation (s : State) (a : Arrival) (n : Byte) : State :=
  let one (x : Side) : State :=
    if a.origin = .segment x.segment then s.countFwd a.origin FwdCounters.addFiltered
    else if s.forwards x.segment then s.sendOn a.origin a.frame [.segment x.segment (syncOne x.sync)]
    else s.countFwd a.origin FwdCounters.addUnreachable
  match (s.table.entry n).known with
  | .empty => s.sendOrFilter a.origin a.frame (s.floodList a.origin)
  | .active x => one x
  | .quiet x => one x
  | .duplicate x y =>
    let sides := (segments.flatMap fun i => [x, y].filter fun z => z.segment = i).filter fun z =>
      s.forwards z.segment && a.origin ≠ .segment z.segment
    match sides with
    | [] =>
      if a.origin = .segment x.segment || a.origin = .segment y.segment then s.countFwd a.origin FwdCounters.addFiltered
      else s.countFwd a.origin FwdCounters.addUnreachable
    | _ => s.sendOn a.origin a.frame (sides.map fun z => .segment z.segment (syncOne z.sync))

/-! ## Answers (R113) -/

/-- Count an answer the service queue took (R113, R115). -/
def State.countAnswer (o : Origin) : State × OfferResult → State
  | (s, .taken) => s.countFwd o FwdCounters.addAnswered
  | (s, _) => s

/-- Answer an ECHO_REQ from the number it was sent to (R113). -/
def State.echo (s : State) (a : Arrival) : State :=
  let h : Header := ⟨a.frame.header.src, a.frame.header.dst, typeEchoReply, 0, a.frame.header.len⟩
  match s.storeFrame ⟨h, a.frame.payload⟩ with
  | none => s.countFwd a.origin FwdCounters.addNoBuffer
  | some (name, s1) => (State.countAnswer a.origin (s1.offerService a.back (.stored name) h)).freeIfUnreferenced name

/-- Direct printing: dropped and counted; a PRINT_BLOCK is answered REFUSED from the gateway number (R110). -/
def State.directPrint (s : State) (a : Arrival) : State :=
  let s1 := s.countFwd a.origin FwdCounters.addDirectPrint
  if a.frame.header.typ = typePrintBlock then
    State.countAnswer a.origin (s1.offerService a.back .nothing
      (emptyHeader a.frame.header.src s1.table.gateway typeBlockAck (ackControl ackRefused (ctlSeq a.frame.header.ctl))))
  else s1

/-! ## The decision (R106) -/

/-- A frame to the gateway number (R108). -/
def State.forGateway (s : State) (a : Arrival) : State :=
  let h := a.frame.header
  if h.typ = typeBlockAck then s.blockAck h.src h.ctl
  else if h.typ = typePrinterStatus then s.printerStatus h.src h.ctl
  else if h.typ = typeEchoReq then s.echo a
  else s.countFwd a.origin FwdCounters.addUnwanted

/-- A frame to the service number of group `g` (R109). -/
def State.forService (s : State) (a : Arrival) (g : Nat) : State :=
  let h := a.frame.header
  if h.typ = typePrintBlock then s.takeBlock ⟨h.src, a.origin, g, h.dst, h.ctl, a.frame.payload, a.back⟩
  else if h.typ = typeEchoReq then s.echo a
  else s.countFwd a.origin FwdCounters.addUnwanted

/-- A frame to an alias (R111). -/
def State.forAlias (s : State) (a : Arrival) (mac : Mac) : State :=
  if a.origin = .uplink then
    if a.frame.header.typ = typeEchoReq then s.echo a else s.countFwd a.origin FwdCounters.addFiltered
  else if !s.uplink.up then s.countFwd a.origin FwdCounters.addUnreachable
  else if a.frame.header.typ = typeEchoReq then s.echo a
  else s.sendOn a.origin a.frame [.uplink mac]

/-- The Forwarding Engine's decision, in the order of R106. -/
def State.forward (s : State) (a : Arrival) : State :=
  let n := a.frame.header.dst
  if n = 0 then s.countFwd a.origin FwdCounters.addUnreachable
  else if n = 255 then s.sendOrFilter a.origin a.frame (s.broadcastList a.origin)
  else if n = s.table.gateway then s.forGateway a
  else
    match s.groupOf n with
    | some g => s.forService a g.1
    | none =>
      if (s.printerOf n).isSome && isPrintType a.frame.header.typ then s.directPrint a
      else
        match s.aliasOf n with
        | some e => s.forAlias a e.2.mac
        | none => s.forwardStation a n

/-! ## Tunnel frames (R119 to R122) -/

/-- Bytes of a tunnel frame before its payload, and the Ethernet minimum before the FCS (R119). -/
def tunnelHead : Nat := 21
def ethernetMinimum : Nat := 60

/-- The tunnel header's version (R119). -/
def tunnelVersion : Byte := 0x01

/-- The tunnel frame built from an entry, pad and FCS included (R119, R182). -/
def State.tunnelFrame (s : State) (e : QEntry Mac) : List Byte :=
  let bare := macBytes e.dest ++ macBytes (proxyMac s.table.proxyBase e.header.src) ++ halfBytes s.uplink.etherType ++
    [tunnelVersion] ++ e.header.bytes ++ s.payloadOf e.header e.source
  let padded := bare ++ List.replicate (ethernetMinimum - bare.length) 0
  padded ++ fcsBytes padded

/-- How a frame on the uplink is judged (R120). -/
inductive TunnelJudgement where
  | notReceived
  | corrupt
  | foreign
  | badTunnel
  | good (sender : Mac) (frame : Frame)
  deriving DecidableEq, Repr

/-- Lines 4 to 7 of R120 on the bytes after the EtherType; `total` is the frame's length before its FCS. -/
def judgeTunnel (sender : Mac) (total : Nat) : List Byte → TunnelJudgement
  | [] => .badTunnel
  | v :: rest =>
    if v ≠ tunnelVersion then .badTunnel
    else
      match headerOf rest with
      | none => .corrupt
      | some (h, body) =>
        if maxPayload < h.len.toNat || body.length < h.len.toNat then .corrupt
        else if h.len.toNat < body.length && ethernetMinimum < total then .corrupt
        else .good sender ⟨h, body.take h.len.toNat⟩

/-- Judge a frame received on the uplink, its FCS included, in the order of R120. One that ends before or inside its EtherType
has not the configured one, and is foreign (log entry 30). -/
def State.judgeFrame (s : State) (bytes : List Byte) : TunnelJudgement :=
  let total := bytes.length - 4
  let bare := bytes.take total
  let dst := macOf bytes
  if bytes.length < 6 || (dst ≠ broadcastMac && !isProxy s.table.proxyBase dst) then .notReceived
  else if bytes.length < 4 || bytes.drop total ≠ fcsBytes bare then .corrupt
  else if bare.length < 14 || (bare.drop 12).take 2 ≠ halfBytes s.uplink.etherType then .foreign
  else judgeTunnel (macOf (bare.drop 6)) total (bare.drop 14)

/-- Count on the uplink's own counters (R122). -/
def State.countUplink (s : State) (f : UplinkCounters → UplinkCounters) : State :=
  { s with uplink := { s.uplink with counters := f s.uplink.counters } }

/-- The sender check: the inner source number becomes the alias's, and the frame goes to the engine (R121). -/
def State.checkSender (s : State) (sender : Mac) (f : Frame) : State :=
  match s.aliasOfMac sender with
  | none => s.countUplink fun c => { c with unknownSender := c.unknownSender + 1 }
  | some e =>
    (s.countUplink fun c => { c with framesIn := c.framesIn + 1 }).forward
      ⟨.uplink, .uplink sender, false, ⟨{ f.header with src := e.2.number }, f.payload⟩⟩

/-- A frame's reception on the uplink ends (R120, R121). -/
def State.tunnelReceived (s : State) (bytes : List Byte) : State :=
  match s.judgeFrame bytes with
  | .notReceived => s
  | .corrupt => s.countUplink fun c => { c with corrupt := c.corrupt + 1 }
  | .foreign => s.countUplink fun c => { c with foreign := c.foreign + 1 }
  | .badTunnel => s.countUplink fun c => { c with badTunnel := c.badTunnel + 1 }
  | .good sender f => s.checkSender sender f

end Sys2Proof.Machine
end

