-- ==== Sys2Proof/Machine/Answers.lean ====
section
/-! DEFINITION. How a request is judged, carried out and answered (R170, R171, R173). -/

namespace Sys2Proof.Machine

/-- The answer a request's own rule gives: a status, and what follows it in the reply body (R173, R190). -/
structure Answer where
  status : Status
  body : List Byte
  deriving DecidableEq, Repr

/-- OK with what follows it. -/
def okWith (s : State) (body : List Byte) : State × Answer := (s, ⟨.ok, body⟩)

/-- OK with nothing after it (R190). -/
def okEmpty (s : State) : State × Answer := okWith s []

/-- Refused: nothing changes, and the reply carries the status alone (R173). -/
def refuse (status : Status) (s : State) : State × Answer := (s, ⟨status, []⟩)

/-- Fill the reply slot (R171). -/
def State.fileReply (s : State) (m : Msg) : State :=
  { s with mgmt := { s.mgmt with reply := some m, refusalOlder := s.mgmt.refusal.isSome } }

/-- Fill the refusal slot if it is empty; a refusal made while it is full is not sent (R171). -/
def State.fileRefusal (s : State) (m : Msg) : State :=
  match s.mgmt.refusal with
  | some _ => s
  | none => { s with mgmt := { s.mgmt with refusal := some m, refusalOlder := s.mgmt.reply.isNone } }

/-- The FORMAT refusal with tag 0 and code 0 (R170 lines 1 to 3, R184). -/
def formatRefusal : Msg := replyMsg 0x00 0 .format []

/-- A message was received whole: the receiver stands after a delimiter with an empty buffer (R169). -/
def emptyBuffer : RxBuffer := ⟨false, [], false, false⟩

/-- The receive buffer after the delimiter that closes a message (R169). -/
def State.bufferEmptied (s : State) : State := { s with mgmt := { s.mgmt with rx := emptyBuffer } }

/-- Carry a taken request out and file its reply, all in its event (R170 line 6, R171). -/
def State.carryOut (s : State) (code tag : Byte) (handler : State → State × Answer) : State :=
  (handler s).1.fileReply (replyMsg code tag (handler s).2.status (handler s).2.body)

/-- Judge a well-formed request by lines 3, 4 and 6 of R170 and carry it out. -/
def State.judgeRequest (s : State) (code tag : Byte) (handler : State → State × Answer) : State :=
  if tag = 0 then s.fileRefusal formatRefusal
  else if s.mgmt.reply.isSome then s.fileRefusal (replyMsg code tag .sequence [])
  else s.carryOut code tag handler

/-- A well-formed request message arrives between its delimiters (R169, R170). Nothing is taken from the line while the reset
pin is held (R178). -/
def State.requestArrives (s : State) (code tag : Byte) (handler : State → State × Answer) : State :=
  if s.mgmt.pinHeld then s else s.bufferEmptied.judgeRequest code tag handler

/-- The outcome of a request command. -/
def State.request (s : State) (code tag : Byte) (handler : State → State × Answer) : Host.Outcome State Fault Refusal :=
  (s.requestArrives code tag handler).done

end Sys2Proof.Machine
end

