-- ==== Sys2Proof/Machine/Replies.lean ====
section
/-! DEFINITION. What follows the status in the replies that report state (R174, R175, R190; encodings where R190 leaves a
choice: log entry 21). -/

namespace Sys2Proof.Machine

/-! ## The part (R174, R175) -/

/-- GET_INFO's items: family and part identity, revision, rate, capacities (R174, R190). -/
def infoBody (rate : Nat) : List Byte :=
  [0x01] ++ [0x04, 0x20] ++ [1] ++ nat4 rate ++ [4, 3, 254, 32] ++ nat2 poolPages ++ nat2 256 ++ nat1 jobCapacity ++ [16, 8] ++
    nat1 noticeCapacity ++ nat2 maxBody

/-- The link state as a byte (R188). -/
def linkByte (up : Bool) : Byte := if up then 0x01 else 0x02

/-- GET_STATUS's items (R175). -/
def State.statusBody (s : State) : List Byte :=
  counterBytes s.time.seconds ++ (segments.map fun i => (s.port i).state.byte) ++ [linkByte s.uplink.up] ++
    [flagByte s.tester.context.isSome, optByte (fun c : TestContext => segByte c.segment) s.tester.context] ++
    nat2 s.freePages ++ nat1 s.intake.jobs.length ++ nat1 s.mgmt.notices.length ++ [flagByte s.mgmt.lost]

/-! ## Segments (R18, R63, R64, R83) -/

/-- A supervision context's settings in the order of R42. -/
def SupSettings.bytes (c : SupSettings) : List Byte :=
  nat1 c.window ++ nat1 c.shift ++ nat2 c.high ++ nat2 c.low ++ nat1 c.strikes ++ nat1 c.rejoinWindows ++ nat1 c.maskWindows ++
    [c.isolateSet.byte, flagByte c.autoIsolate, flagByte c.autoRejoin, flagByte c.autoTest] ++ nat1 c.flapLimit ++ nat2 c.vf

/-- The port items of GET_SEGMENT (R18). -/
def Port.bytes (p : Port) : List Byte :=
  [p.state.byte, p.relay.byte, p.trim.setWidth 8, p.lineCode.setWidth 8, p.policy.byte] ++ nat1 p.settleTime ++
    [optByte IsoReason.byte p.reason] ++ nat1 p.service.length ++ nat1 p.transit.length ++ timerBytes p.settleTimer

/-- The supervision items of GET_SEGMENT (R64). -/
def Supervision.bytes (c : Supervision) : List Byte :=
  nat4 c.counts.g ++ nat4 c.counts.m ++ nat4 c.counts.c ++ nat4 c.counts.k ++ nat4 c.counts.j ++ timerBytes c.windowTimer ++
    (match c.lastE with
      | some e => nat2 e
      | none => [0xFF, 0xFF]) ++
    nat2 c.health ++ nat1 c.strikes ++ nat1 c.rejoins ++ nat1 c.mask ++ [c.live.byte, c.latched.byte] ++ nat1 c.flaps ++
    timerBytes c.flapTimer ++ nat1 c.history.length ++ halfBytes c.nextSeq ++ c.settings.bytes

/-- An echo capture, led by its presence (R74, R190). -/
def captureBytes : Option Capture → List Byte
  | some c => [0x01] ++ nat2 c.t ++ [c.kind.byte] ++ nat2 c.vf ++ nat2 c.distance ++ counterBytes c.time
  | none => List.replicate 12 0

/-- The tester items of GET_SEGMENT (R83): whether the tester is busy with this segment leads the stage, cause and attempts. -/
def State.testerBytes (s : State) (i : SegIx) : List Byte :=
  (match s.tester.context with
    | some c => if c.segment = i then [0x01, c.stage.byte, c.cause.byte] ++ nat1 c.attempts else [0, 0, 0, 0]
    | none => [0, 0, 0, 0]) ++
    [flagByte (s.tester.pendingFlags.get i)] ++ captureBytes (s.tester.captures.get i).current ++
    captureBytes (s.tester.captures.get i).previous

/-- GET_SEGMENT's items (R18, R64, R83). -/
def State.segmentBody (s : State) (i : SegIx) : List Byte := (s.port i).bytes ++ (s.sup i).bytes ++ s.testerBytes i

/-- GET_FAULTS's items (R63). -/
def Supervision.faultBody (c : Supervision) : List Byte :=
  [c.live.byte, c.latched.byte] ++ nat1 c.history.length ++ c.history.flatMap FaultRecord.bytes

/-! ## Stations (R105) -/

/-- A station state (R188). -/
def Known.byte : Known → Byte
  | .empty => 0x01 | .active _ => 0x02 | .quiet _ => 0x03 | .duplicate _ _ => 0x04

/-- The second side of an entry. -/
def Known.second : Known → Option Side
  | .duplicate _ b => some b
  | _ => none

/-- A side's three bytes. -/
def Side.bytes (a : Side) : List Byte := [segByte a.segment] ++ nat1 a.silence ++ nat1 a.sync.val

/-- A side led by its presence (R190). -/
def sideGroup : Option Side → List Byte
  | some a => 0x01 :: a.bytes
  | none => [0, 0, 0, 0]

/-- The station fields of GET_STATION; absent where the number is no station (R105, R190). -/
def Station.fields (e : Station) : List Byte :=
  match e.known.first with
  | some a =>
    [e.known.byte] ++ sideGroup (some a) ++ sideGroup e.known.second ++
      [flagByte e.pinned, if e.pinned then segByte a.segment else absentByte, flagByte e.held]
  | none => [absentByte] ++ sideGroup none ++ sideGroup none ++ [absentByte, absentByte, absentByte]

/-- The alias fields of GET_STATION (R105, R190). -/
def aliasFields : Option (Nat × AliasEntry) → List Byte
  | some a => nat1 a.1 ++ macBytes a.2.mac
  | none => List.replicate 7 absentByte

/-- GET_STATION's items (R105). -/
def State.stationBody (s : State) (n : Byte) : List Byte :=
  let isStation := s.kindOf n = .station
  [(s.kindOf n).byte] ++ (if isStation then (s.table.entry n).fields else emptyStation.fields) ++
    aliasFields (if s.kindOf n = .aliasNumber then s.aliasOf n else none) ++ [flagByte (s.table.entry n).violation] ++
    [optByte flagByte (s.reachable n), flagByte (s.unreachable n).isNone, optByte UnreachReason.byte (s.unreachable n)]

/-- Entries one LIST_STATIONS reply gives (R105). -/
def stationsPerReply : Nat := 32

/-- The non-EMPTY entries at or above a start, ascending (R105). -/
def State.stationsFrom (s : State) (start : Nat) : List (Nat × Station) :=
  s.table.entries.filter fun e => start ≤ e.1 && e.2.isKnown

/-- The 9 bytes of an entry of LIST_STATIONS (R190). -/
def stationRow (e : Nat × Station) : List Byte :=
  nat1 e.1 ++ [e.2.known.byte] ++
    (match e.2.known.first with
      | some a => a.bytes
      | none => [absentByte, absentByte, absentByte]) ++
    (match e.2.known.second with
      | some b => b.bytes
      | none => [absentByte, absentByte, absentByte]) ++
    [(0 : BitVec 6) ++ BitVec.ofBool e.2.held ++ BitVec.ofBool e.2.pinned]

/-- The number after the last of a list's first `n` entries, when more follow; else 0 (R105, R147). -/
def nextStart {α : Type} (number : α → Nat) (n : Nat) (l : List α) : Nat :=
  if l.length ≤ n then 0
  else
    match (l.take n).getLast? with
    | some e => number e + 1
    | none => 0

/-- LIST_STATIONS's items (R105, R190). -/
def State.stationListBody (s : State) (start : Nat) : List Byte :=
  let all := s.stationsFrom start
  let given := all.take stationsPerReply
  nat1 given.length ++ given.flatMap stationRow ++ nat1 (nextStart Prod.fst stationsPerReply all)

/-! ## Ports and pool (R17, R40, R115, R122, R131) -/

/-- The forwarding counters in the order of R115. -/
def FwdCounters.bytes (c : FwdCounters) : List Byte :=
  counterBytes c.filtered ++ counterBytes c.unreachable ++ counterBytes c.unwanted ++ counterBytes c.directPrint ++
    counterBytes c.noBuffer ++ counterBytes c.tailDrop ++ counterBytes c.addressViolation ++ counterBytes c.answered

/-- A segment's counters (R17, R40, R115). -/
def Port.counterBody (p : Port) : List Byte :=
  counterBytes p.rx.framesIn ++ counterBytes p.rx.marginal ++ counterBytes p.rx.corrupt ++ counterBytes p.rx.collisions ++
    counterBytes p.rx.unsynced ++ counterBytes p.rx.jabber ++ counterBytes p.tx.framesOut ++ counterBytes p.tx.excess ++
    counterBytes p.tx.flushed ++ counterBytes p.tx.serviceFull ++ p.fwd.bytes

/-- The uplink's counters (R122, R115). -/
def Uplink.counterBody (u : Uplink) : List Byte :=
  counterBytes u.counters.framesIn ++ counterBytes u.counters.framesOut ++ counterBytes u.counters.corrupt ++
    counterBytes u.counters.foreign ++ counterBytes u.counters.badTunnel ++ counterBytes u.counters.unknownSender ++
    counterBytes u.counters.sendFailures ++ counterBytes u.counters.flushed ++ counterBytes u.counters.serviceFull ++ u.fwd.bytes

/-- GET_POOL's items (R131); stored frames take two bytes (log entry 21). -/
def State.poolBody (s : State) : List Byte :=
  nat2 s.freePages ++ nat2 s.frameHeld ++ nat2 s.jobHeld ++ nat2 s.pool.frames.length ++ nat2 s.pool.reserve ++
    nat2 s.pool.quota ++ nat2 s.pool.lowestFree ++ counterBytes s.pool.reserveRefusals ++ counterBytes s.pool.quotaRefusals

/-! ## Printers and jobs (R147, R167) -/

/-- A number in one byte, all ones when absent. -/
def optNat1 : Option Nat → List Byte
  | some n => nat1 n
  | none => [absentByte]

/-- The groups of which a printer is a member, as a set (R188). -/
def State.groupSet (s : State) (p : Nat) : Byte :=
  (s.groupsOf p).foldl (fun (b : Byte) g => b ||| BitVec.twoPow 8 g) 0

/-- Queue entries one GET_PRINTER reply gives (R167). -/
def queuePerReply : Nat := 16

/-- A queue entry of GET_PRINTER (R190). -/
def Job.queueRow (j : Job) : List Byte :=
  halfBytes j.number ++ [flagByte j.urgent, j.delivery.byte] ++ nat4 j.received ++ nat4 j.delivered

/-- The block in flight, led by its presence (R167, R190). -/
def flightBytes : Option Flight → List Byte
  | some f => [0x01] ++ halfBytes f.job ++ [f.seq.setWidth 8] ++ nat2 f.count ++ [if f.outstanding then 0x01 else 0x02]
  | none => List.replicate 7 0

/-- GET_PRINTER's items for an entry in use (R167); the nominal rate and r are given in bytes/s, two bytes each (log
entry 21). -/
def State.printerBody (s : State) (p : Nat) (e : Printer) : List Byte :=
  let st := s.printerState e
  let jobs := (e.queue.filterMap s.job).take queuePerReply
  [e.station] ++ nat2 e.nominalRate ++ nat2 e.blockTimeout ++ nat2 e.endTimeout ++ [flagByte e.stopAfter] ++ nat2 e.rate ++
    [e.nextSeq.setWidth 8, st.byte, if st = .unreachable then optByte UnreachReason.byte (s.unreachable e.station) else absentByte,
      e.pause.byte, s.groupSet p] ++
    nat1 e.queue.length ++ nat1 jobs.length ++ jobs.flatMap Job.queueRow ++ flightBytes e.flight ++ nat1 e.resends ++
    timerBytes e.blockTimer ++ timerBytes e.retryTimer ++ timerBytes e.endTimer

/-- The intake state as a byte (R188). -/
def intakeByte (isOpen : Bool) : Byte := if isOpen then 0x01 else 0x02

/-- GET_JOB's items, the fields of R133 (R147). -/
def Job.body (j : Job) : List Byte :=
  halfBytes j.number ++ [j.source, j.origin.byte] ++ optNat1 j.group ++ [flagByte j.urgent, intakeByte j.isOpen] ++
    [j.lastSeq.setWidth 8, flagByte j.lastFirst, j.expected.setWidth 8] ++ nat4 j.received ++ nat2 j.chain.length ++
    counterBytes j.lastActivity ++ timerBytes j.idleTimer ++ [optByte JobOutcome.byte j.pendingOutcome, j.delivery.byte] ++
    nat4 j.delivered ++ optNat1 j.printer ++ [j.printerSeq.setWidth 8, flagByte j.blockOffered] ++ nat4 j.activeTime

/-- Jobs one LIST_JOBS reply gives (R147). -/
def jobsPerReply : Nat := 16

/-- Put a job in its place by number. -/
def insertJob (j : Job) : List Job → List Job
  | [] => [j]
  | k :: ks => if j.number.toNat ≤ k.number.toNat then j :: k :: ks else k :: insertJob j ks

/-- The jobs at or above a start, ascending by number (R147). -/
def State.jobsFrom (s : State) (start : Half) : List Job :=
  (s.intake.jobs.filter fun j => start.toNat ≤ j.number.toNat).foldr insertJob []

/-- The 17 bytes of a job of LIST_JOBS (R190). -/
def Job.row (j : Job) : List Byte :=
  halfBytes j.number ++ [j.source, j.origin.byte, j.service, flagByte j.urgent, intakeByte j.isOpen, j.delivery.byte] ++
    optNat1 j.printer ++ nat4 j.received ++ nat4 j.delivered

/-- The intake counters in the order of R148. -/
def IntakeCounters.bytes (c : IntakeCounters) : List Byte :=
  counterBytes c.stored ++ counterBytes c.resends ++ counterBytes c.retries ++ counterBytes c.refused ++ counterBytes c.ignored ++
    counterBytes c.answersLost

/-- LIST_JOBS's items (R147, R190). -/
def State.jobListBody (s : State) (start : Half) : List Byte :=
  let all := s.jobsFrom start
  let given := all.take jobsPerReply
  s.intake.counters.bytes ++ nat1 given.length ++ given.flatMap Job.row ++
    nat2 (nextStart (fun j : Job => j.number.toNat) jobsPerReply all)

end Sys2Proof.Machine
end

