-- ==== Sys2Proof/Machine/AddressRequests.lean ====
section
/-! DEFINITION. The addressing requests (chapter 5). -/

namespace Sys2Proof.Machine

/-- Judge a request's station number: 0 and 255 are refused with RANGE. -/
def onNumber (n : Byte) (act : Byte → State → State × Answer) (s : State) : State × Answer :=
  if isStationNumber n then act n s else refuse .range s

/-- GET_STATION (R105). -/
def State.getStation (n : Byte) (s : State) : State × Answer := okWith s (s.stationBody n)

def execGetStation (tag number : Byte) (s : State) : Host.Outcome State Fault Refusal :=
  s.request 0x40 tag (onNumber number State.getStation)

/-- LIST_STATIONS (R105). -/
def State.listStations (n : Byte) (s : State) : State × Answer := okWith s (s.stationListBody n.toNat)

def execListStations (tag number : Byte) (s : State) : Host.Outcome State Fault Refusal :=
  s.request 0x41 tag (onNumber number State.listStations)

/-! ## PIN, UNPIN, FORGET (R94 to R96) -/

/-- The state PIN gives a DUPLICATE entry's kept side (R94). -/
def keptSide (a : Side) : Known := if a.silence < 2 then .active a else .quiet a

/-- The entry of number `n` after PIN to segment `i`, and the notice PIN passes (R94). -/
def State.pinned (s : State) (n : Byte) (i : SegIx) : Station × Option Notice :=
  let e := s.table.entry n
  match e.known with
  | .empty => ({ e with known := .quiet ⟨i, 10, 0⟩, pinned := true, held := s.heldAtOnce n }, none)
  | .active a =>
    if a.segment = i then ({ e with pinned := true }, none)
    else ({ e with known := .quiet ⟨i, 10, a.sync⟩, pinned := true }, some (.stationMoved n a.segment i true))
  | .quiet a =>
    if a.segment = i then ({ e with pinned := true }, none)
    else ({ e with known := .quiet ⟨i, 10, a.sync⟩, pinned := true }, some (.stationMoved n a.segment i true))
  | .duplicate a b =>
    if a.segment = i then ({ e with known := keptSide a, pinned := true }, some (.conflictCleared n i true))
    else if b.segment = i then ({ e with known := keptSide b, pinned := true }, some (.conflictCleared n i true))
    else ({ e with known := .quiet ⟨i, 10, a.sync⟩, pinned := true }, some (.conflictCleared n i true))

/-- Pass a notice if there is one. -/
def State.notifyOpt (s : State) : Option Notice → State
  | some m => s.notify m
  | none => s

/-- PIN (R94). -/
def State.pin (seg n : Byte) (s : State) : State × Answer :=
  match segOf seg with
  | none => refuse .range s
  | some i =>
    match s.kindOf n with
    | .station => okEmpty (((s.setEntry n (s.pinned n i).1).notifyOpt (s.pinned n i).2).stationChanged n)
    | .unclaimed => okEmpty (((s.setEntry n (s.pinned n i).1).notifyOpt (s.pinned n i).2).stationChanged n)
    | _ => refuse .conflict s

def execPin (tag number seg : Byte) (s : State) : Host.Outcome State Fault Refusal :=
  s.request 0x42 tag (onNumber number (State.pin seg))

/-- UNPIN (R95). -/
def State.unpin (n : Byte) (s : State) : State × Answer :=
  if (s.table.entry n).isKnown then okEmpty (s.setEntry n { s.table.entry n with pinned := false }) else refuse .notFound s

def execUnpin (tag number : Byte) (s : State) : Host.Outcome State Fault Refusal :=
  s.request 0x43 tag (onNumber number State.unpin)

/-- FORGET (R96). -/
def State.forget (n : Byte) (s : State) : State × Answer :=
  match (s.table.entry n).known.first with
  | none => refuse .notFound s
  | some a =>
    if (s.table.entry n).held then refuse .state s
    else
      okEmpty (((s.setEntry n (s.table.entry n).emptied).notify
        (.stationDeparted n a.segment ((s.table.entry n).known.second.map Side.segment) true)).stationChanged n)

def execForget (tag number : Byte) (s : State) : Host.Outcome State Fault Refusal :=
  s.request 0x44 tag (onNumber number State.forget)

/-! ## SET_AGING (R91) -/

/-- SET_AGING (R91): a running interval keeps its length. -/
def State.setAging (unit hold : Byte) (s : State) : State × Answer :=
  let t := clamp 1 255 unit.toNat
  let h := clamp 1 9 hold.toNat
  okWith { s with table := { s.table with agingUnit := t, moveHold := h } } (nat1 t ++ nat1 h)

def execSetAging (tag unit hold : Byte) (s : State) : Host.Outcome State Fault Refusal :=
  s.request 0x45 tag (State.setAging unit hold)

/-! ## SET_GATEWAY_NUMBER (R101) -/

/-- SET_GATEWAY_NUMBER (R101); the change is a station change for the old and the new number (R104). -/
def State.setGateway (n : Byte) (s : State) : State × Answer :=
  if n = s.table.gateway then okEmpty s
  else if s.kindOf n = .unclaimed && (s.printerOf n).isNone then
    okEmpty ((State.stationChanged { s with table := { s.table with gateway := n } } s.table.gateway).stationChanged n)
  else refuse .conflict s

def execSetGatewayNumber (tag number : Byte) (s : State) : Host.Outcome State Fault Refusal :=
  s.request 0x46 tag (onNumber number State.setGateway)

/-! ## Aliases (R98, R99) -/

/-- Alias entries (R98). -/
def aliasCapacity : Nat := 32

/-- Whether a number is claimed against an alias at index `k` (R98 rule 2). -/
def State.aliasNumberTaken (s : State) (k : Nat) (n : Byte) : Bool :=
  match s.kindOf n with
  | .unclaimed => false
  | .aliasNumber =>
    match s.aliasOf n with
    | some a => a.1 ≠ k
    | none => false
  | _ => true

/-- Whether a MAC is claimed against an alias at index `k` (R98 rule 3). -/
def State.aliasMacTaken (s : State) (k : Nat) (m : Mac) : Bool :=
  (s.table.aliases.any fun a => a.1 ≠ k && a.2.mac = m) || isProxy s.table.proxyBase m

/-- The number an alias index gives up when its entry is set to another number (R98). -/
def State.releasedNumber (s : State) (k : Nat) (n : Byte) : Option Byte :=
  match tableGet s.table.aliases k with
  | some a => if a.number = n then none else some a.number
  | none => none

/-- A station change for a number, if there is one. -/
def State.stationChangedOpt (s : State) : Option Byte → State
  | some n => s.stationChanged n
  | none => s

/-- SET_ALIAS (R98). -/
def State.setAlias (index : Byte) (m : Mac) (n : Byte) (s : State) : State × Answer :=
  let k := index.toNat
  if aliasCapacity ≤ k || macGroup m then refuse .range s
  else if s.aliasNumberTaken k n || s.aliasMacTaken k m then refuse .conflict s
  else
    okEmpty ((State.stationChangedOpt { s with table := { s.table with aliases := tablePut s.table.aliases k ⟨n, m⟩ } }
      (s.releasedNumber k n)).stationChanged n)

def execSetAlias (tag index number : Byte) (mac : Mac) (s : State) : Host.Outcome State Fault Refusal :=
  s.request 0x47 tag (onNumber number (State.setAlias index mac))

/-- CLEAR_ALIAS (R99). -/
def State.clearAlias (index : Byte) (s : State) : State × Answer :=
  if aliasCapacity ≤ index.toNat then refuse .range s
  else
    match tableGet s.table.aliases index.toNat with
    | none => refuse .notFound s
    | some a =>
      okEmpty (State.stationChanged { s with table := { s.table with aliases := tableDrop s.table.aliases index.toNat } } a.number)

def execClearAlias (tag index : Byte) (s : State) : Host.Outcome State Fault Refusal :=
  s.request 0x48 tag (State.clearAlias index)

/-! ## SET_PROXY_BASE (R102) -/

/-- SET_PROXY_BASE (R102). -/
def State.setProxyBase (m : Mac) (s : State) : State × Answer :=
  if !macLocal m || macGroup m || m.extractLsb' 0 8 ≠ 0 then refuse .range s
  else if s.table.aliases.any fun a => isProxy m a.2.mac then refuse .conflict s
  else okEmpty { s with table := { s.table with proxyBase := m } }

def execSetProxyBase (tag : Byte) (mac : Mac) (s : State) : Host.Outcome State Fault Refusal :=
  s.request 0x49 tag (State.setProxyBase mac)

end Sys2Proof.Machine
end

