-- ==== Sys2Proof/Machine/Part.lean ====
section
/-! DEFINITION. The part's own requests and resets, and the Time Base (chapter 10): GET_INFO, GET_STATUS, RESET, SET_NOTICES,
PIN_OR_POWER_RESET, RESET_PIN_HELD, TIME_BASE_TICK. -/

namespace Sys2Proof.Machine

/-! ## Requests -/

/-- GET_INFO (R174). -/
def State.getInfo (s : State) : State × Answer := okWith s (infoBody s.mgmt.rate)

def execGetInfo (tag : Byte) (s : State) : Host.Outcome State Fault Refusal := s.request 0x10 tag State.getInfo

/-- GET_STATUS (R175): the notices-lost flag is cleared after the reply is formed. -/
def State.getStatus (s : State) : State × Answer :=
  okWith { s with mgmt := { s.mgmt with lost := false } } s.statusBody

def execGetStatus (tag : Byte) (s : State) : Host.Outcome State Fault Refusal := s.request 0x11 tag State.getStatus

/-- RESET (R179): answered OK; the reset waits until that reply has been sent. -/
def State.takeReset (s : State) : State × Answer := okEmpty { s with mgmt := { s.mgmt with resetTaken := true } }

def execReset (tag : Byte) (s : State) : Host.Outcome State Fault Refusal := s.request 0x12 tag State.takeReset

/-- The enable set taken: bit 0 always set, bits 13 to 15 clear (R177, R184). -/
def enableSet (kinds : Half) : Half := (kinds &&& 0x1FFE) ||| 1

/-- SET_NOTICES (R177). -/
def State.setNotices (kinds : Half) (s : State) : State × Answer :=
  okWith { s with mgmt := { s.mgmt with enabled := enableSet kinds } } (halfBytes (enableSet kinds))

def execSetNotices (tag : Byte) (kinds : Half) (s : State) : Host.Outcome State Fault Refusal :=
  s.request 0x13 tag (State.setNotices kinds)

/-! ## Resets (R178) -/

/-- A port after a reset; the carrier on its cable is not the part's to change (log entry 13). -/
def Port.afterReset (p : Port) : Port := resetPort p.receiver.lineCarrier

/-- The reset of the whole part (R178). The model's own queue of commands and its count of draws stay (log entry 32). -/
def State.wholeReset (s : State) (cause : ResetCause) (strap1 strap2 : Bool) : State :=
  { pending := s.pending, raised := [], draws := s.draws, ports := s.ports.map Port.afterReset, syncs := resetSyncs,
    sups := ⟨resetSupervision, resetSupervision, resetSupervision, resetSupervision⟩,
    tester := resetTester, table := resetTable, uplink := resetUplink, pool := resetPool, intake := resetIntake,
    delivery := resetDelivery, mgmt := resetMgmt cause strap1 strap2, time := resetTime }

/-- PIN_OR_POWER_RESET (R178). -/
def execPinOrPowerReset (strap1 strap2 : Bool) (s : State) : Host.Outcome State Fault Refusal :=
  (s.wholeReset .pinOrPower strap1 strap2).done

/-- RESET_PIN_HELD (R178): the management line is driven idle, cutting off what was being sent, and nothing is taken from
it until the release. -/
def execResetPinHeld (s : State) : Host.Outcome State Fault Refusal :=
  State.done { s with mgmt := { s.mgmt with pinHeld := true, sending := none, opening := true } }

/-! ## The Time Base (R178, R161) -/

/-- A tick on a segment port's timers. -/
def Port.tick (p : Port) : Port :=
  { p with
    settleTimer := p.settleTimer.tick
    receiver := { p.receiver with carrierTimer := p.receiver.carrierTimer.tick } }

/-- A tick on a supervision context's timers. -/
def Supervision.tick (c : Supervision) : Supervision :=
  { c with windowTimer := c.windowTimer.tick, flapTimer := c.flapTimer.tick }

/-- A tick on a job: its idle timer, and its active time while PRINTING (R161). -/
def Job.tick (j : Job) : Job :=
  { j with
    idleTimer := j.idleTimer.tick
    activeTime := if j.delivery = .printing then j.activeTime + 1 else j.activeTime }

/-- A tick on a printer's timers. -/
def Printer.tick (e : Printer) : Printer :=
  { e with
    blockTimer := e.blockTimer.tick
    retryTimer := e.retryTimer.tick
    endTimer := e.endTimer.tick }

/-- A tick on the seconds counter: one step at each thousandth tick (R178). -/
def TimeBase.tick (t : TimeBase) : TimeBase :=
  if t.millis = 999 then ⟨t.seconds + 1, 0⟩ else ⟨t.seconds, t.millis + 1⟩

/-- TIME_BASE_TICK: the seconds counter, the active times, and 1 ms off every running timer (R161, R178; log entry 1). -/
def State.tick (s : State) : State :=
  { s with
    ports := s.ports.map Port.tick
    sups := s.sups.map Supervision.tick
    tester := { s.tester with context := s.tester.context.map fun c => { c with wait := c.wait.tick } }
    table := { s.table with agingTimer := s.table.agingTimer.tick }
    intake := { s.intake with jobs := s.intake.jobs.map Job.tick }
    delivery := { s.delivery with printers := s.delivery.printers.map fun e => (e.1, e.2.tick) }
    time := s.time.tick }

def execTimeBaseTick (s : State) : Host.Outcome State Fault Refusal := s.tick.done

end Sys2Proof.Machine
end

