-- ==== Sys2Proof/Machine/PrintRequests.lean ====
section
/-! DEFINITION. The printing requests (chapters 8 and 9). -/

namespace Sys2Proof.Machine

/-! ## SET_GROUP, CLEAR_GROUP (R152, R166) -/

/-- Printers and groups the part holds (R149, R152). -/
def printerCount : Nat := 16
def groupCount : Nat := 8

/-- Whether a list of numbers has one twice. -/
def hasTwice : List Byte → Bool
  | [] => false
  | b :: bs => bs.contains b || hasTwice bs

/-- Whether a SET_GROUP names a number outside its range (R152 rule 1). -/
def groupOutOfRange (group service threshold : Byte) (members : List Byte) : Bool :=
  groupCount ≤ group.toNat || !isStationNumber service || 7 < threshold.toNat || members.length = 0 || 8 < members.length ||
    (members.any fun m => printerCount ≤ m.toNat) || hasTwice members

/-- Whether a service number is claimed against group `g` (R152 rule 3). -/
def State.serviceTaken (s : State) (g : Nat) (n : Byte) : Bool :=
  (match s.kindOf n with
    | .unclaimed => false
    | .service =>
      match s.groupOf n with
      | some h => h.1 ≠ g
      | none => false
    | _ => true) || (s.printerOf n).isSome

/-- Whether the service number of group `g` may not change because jobs have it as their group (R152 rule 4). -/
def State.serviceLocked (s : State) (g : Nat) (n : Byte) : Bool :=
  match s.group g with
  | some old => old.service ≠ n && s.intake.jobs.any fun j => j.group = some g
  | none => false

/-- The station changes of a service number changed, or given to a new group (R152, R104). -/
def State.serviceChanged (s : State) (old : Option Group) (n : Byte) : State :=
  match old with
  | some o => if o.service = n then s else (s.stationChanged o.service).stationChanged n
  | none => s.stationChanged n

/-- The jobs of group `g` that are QUEUED to printer `p`, in queue order. -/
def State.queuedOf (s : State) (g p : Nat) : List Job :=
  match s.printer p with
  | some e => (e.queue.filterMap s.job).filter fun j => j.delivery = .queued && j.group = some g
  | none => []

/-- A printer taken out of group `g` gives up the group's QUEUED jobs (R166) and is evaluated (R151); answers the groups to
try binding in. -/
def State.giveUp (s : State) (g p : Nat) : State × List Nat :=
  match s.printer p with
  | none => (s, [])
  | some e =>
    let s1 := (s.queuedOf g p).foldl State.returnJob s
    let (s2, more) := s1.evaluate p
    (s2, more ++ s1.emptiedGroups p e)

/-- Each printer removed from group `g`'s member list gives up its jobs (R166). They do it in the order of the old member list, each
evaluated before the next gives up its own (log entry 46). -/
def State.giveUpAll (s : State) (g : Nat) (removed : List Nat) : State × List Nat :=
  removed.foldl (fun (acc : State × List Nat) p =>
    let (s1, more) := acc.1.giveUp g p
    (s1, acc.2 ++ more)) (s, [])

/-- A SET_GROUP taken (R152). -/
def State.defineGroup (s : State) (g : Nat) (grp : Group) : State :=
  let old := s.group g
  let removed := match old with
    | some o => o.members.filter fun p => !grp.members.contains p
    | none => []
  let s1 := { s with delivery := { s.delivery with groups := tablePut s.delivery.groups g grp } }
  let (s2, more) := (s1.serviceChanged old grp.service).giveUpAll g removed
  s2.bindIn (g :: more)

/-- SET_GROUP (R152): the enumerated fields first (R170), then its rules in order. -/
def State.setGroup (group service mode threshold : Byte) (members : List Byte) (rebind : Option Byte) (s : State) :
    State × Answer :=
  match modeOf mode, flagOf (rebind.getD 0x01) with
  | some balanced, some re =>
    let g := group.toNat
    if groupOutOfRange group service threshold members then refuse .range s
    else if members.any fun m => (s.printer m.toNat).isNone then refuse .notFound s
    else if s.serviceTaken g service then refuse .conflict s
    else if s.serviceLocked g service then refuse .state s
    else okEmpty (s.defineGroup g ⟨service, balanced, threshold.toNat, members.map BitVec.toNat, re⟩)
  | _, _ => refuse .range s

def execSetGroup (tag group service mode threshold : Byte) (members : List Byte) (rebind : Option Byte) (s : State) :
    Host.Outcome State Fault Refusal :=
  s.request 0x80 tag (State.setGroup group service mode threshold members rebind)

/-- A bound job of a cleared group keeps its queue and loses its group (R166). -/
def Job.ungroup (g : Nat) (j : Job) : Job := if j.group = some g then { j with group := none } else j

/-- CLEAR_GROUP (R166). -/
def State.clearGroup (group : Byte) (s : State) : State × Answer :=
  let g := group.toNat
  if groupCount ≤ g then refuse .range s
  else
    match s.group g with
    | none => refuse .notFound s
    | some grp =>
      let s1 := (s.waitList g).foldl (fun s j => s.finishJob j .failed) s
      let s2 := { s1 with intake := { s1.intake with jobs := s1.intake.jobs.map (Job.ungroup g) } }
      okEmpty (State.stationChanged { s2 with delivery := { s2.delivery with groups := tableDrop s2.delivery.groups g } } grp.service)

def execClearGroup (tag group : Byte) (s : State) : Host.Outcome State Fault Refusal :=
  s.request 0x81 tag (State.clearGroup group)

/-! ## SET_PRINTER, CLEAR_PRINTER (R150, R165) -/

/-- Judge a request's printer number (R163, R165, R167). -/
def onPrinter (printer : Byte) (act : Nat → Printer → State → State × Answer) (s : State) : State × Answer :=
  if printerCount ≤ printer.toNat then refuse .range s
  else
    match s.printer printer.toNat with
    | some e => act printer.toNat e s
    | none => refuse .notFound s

/-- Whether a station number is claimed against printer `p` (R150 rule 2). -/
def State.stationTaken (s : State) (p : Nat) (n : Byte) : Bool :=
  n = s.table.gateway || (s.groupOf n).isSome ||
    match s.printerOf n with
    | some q => q.1 ≠ p
    | none => false

/-- The settings a SET_PRINTER carries, clamped (R150). -/
structure PrinterSettings where
  station : Byte
  rate : Nat
  blockTimeout : Nat
  endTimeout : Nat
  stopAfter : Bool
  deriving DecidableEq, Repr

/-- The entry an unused printer number is put in use with (R149). -/
def PrinterSettings.entry (c : PrinterSettings) : Printer :=
  { station := c.station, nominalRate := c.rate, rate := c.rate, blockTimeout := c.blockTimeout, endTimeout := c.endTimeout,
    stopAfter := c.stopAfter, pause := PauseSet.clear, queue := [], nextSeq := 0, flight := none, resends := 0,
    blockTimer := .stopped, retryTimer := .stopped, endTimer := .stopped, found := .absent, foundReason := none,
    foundPause := PauseSet.clear }

/-- The settings replaced in an entry in use (R150). -/
def PrinterSettings.replace (c : PrinterSettings) (e : Printer) : Printer :=
  { e with
    station := c.station
    nominalRate := c.rate
    rate := if e.nominalRate = c.rate then e.rate else c.rate
    blockTimeout := c.blockTimeout
    endTimeout := c.endTimeout
    stopAfter := c.stopAfter
    nextSeq := if e.station = c.station then e.nextSeq else 0 }

/-- The hold asked for a station number that is new to the entry; none when it is answered as not found (R150 rule 4, R97). -/
def State.holdFor (s : State) (old : Option Printer) (n : Byte) : Option State :=
  match old with
  | some e => if e.station = n then some s else s.hold n
  | none => s.hold n

/-- The hold on the old number released when the station number has changed (R150, R97). -/
def State.releaseOld (s : State) (old : Option Printer) (n : Byte) : State :=
  match old with
  | some e => if e.station = n then s else s.release e.station
  | none => s

/-- The entry after a SET_PRINTER. -/
def PrinterSettings.apply (c : PrinterSettings) : Option Printer → Printer
  | some e => c.replace e
  | none => c.entry

/-- Whether an entry in use may not change its station number, because its queue holds jobs (R150 rule 3). -/
def stationLocked (old : Option Printer) (n : Byte) : Bool :=
  match old with
  | some e => e.station ≠ n && e.queue ≠ []
  | none => false

/-- Rules 2 to 5 of R150 on the settings as clamped. -/
def State.definePrinter (p : Nat) (c : PrinterSettings) (reply : List Byte) (s : State) : State × Answer :=
  let old := s.printer p
  if s.stationTaken p c.station then refuse .conflict s
  else if stationLocked old c.station then refuse .state s
  else
    match s.holdFor old c.station with
    | none => refuse .notFound s
    | some s1 => okWith (((s1.releaseOld old c.station).setPrinter p (c.apply old)).touch p []) reply

/-- SET_PRINTER (R150). -/
def State.setPrinterRequest (printer station : Byte) (rate blockTimeout endTimeout : Half) (stopAfter : Byte) (s : State) :
    State × Answer :=
  match flagOf stopAfter with
  | none => refuse .range s
  | some stop =>
    if printerCount ≤ printer.toNat || !isStationNumber station then refuse .range s
    else
      let c : PrinterSettings :=
        ⟨station, clamp 50 65535 rate.toNat, clamp 100 5000 blockTimeout.toNat, clamp 1 600 endTimeout.toNat, stop⟩
      s.definePrinter printer.toNat c
        ([printer, station] ++ nat2 c.rate ++ nat2 c.blockTimeout ++ nat2 c.endTimeout ++ [stopAfter])

def execSetPrinter (tag printer station : Byte) (rate blockTimeout endTimeout : Half) (stopAfter : Byte) (s : State) :
    Host.Outcome State Fault Refusal :=
  s.request 0x82 tag (State.setPrinterRequest printer station rate blockTimeout endTimeout stopAfter)

/-- A job gives up a printer being cleared: back to its wait list, or FAILED when its group has been cleared (R165, R166). -/
def State.giveBack (e : Printer) (s : State) (j : Job) : State :=
  let s1 := s.abortIfOffered e j
  if j.group.isSome then s1.returnJob j else s1.finishJob j .failed

/-- A part-delivered HELD head is stopped at the printer and finishes CANCELLED (R165). -/
def State.cancelHead (s : State) (e : Printer) : State :=
  match s.headJob e with
  | some j =>
    if j.delivery = .held && 0 < j.delivered then
      (if (s.unreachable e.station).isNone then s.sendAbort e.station else s).finishJob j .cancelled
    else s
  | none => s

/-- A printer leaves every group's member list (R165). -/
def State.leaveGroups (s : State) (p : Nat) : State :=
  { s with delivery := { s.delivery with
    groups := s.delivery.groups.map fun g => (g.1, { g.2 with members := g.2.members.filter (· ≠ p) }) } }

/-- Clear a printer entry in use, steps 1 to 7 of R165. DESIGN CHOICE (log entry 39): the ABSENT notice carries the pause reasons
from before step 1, so without a STOPPED that the finish of its HELD head adds with stop-after-job on (R160). DESIGN CHOICE (log
entry 39): jobs of cleared groups finish FAILED (R166) in the order of the printer's queue, head first, and so their JOB_DONE
notices go (R176). -/
def State.clearEntry (s : State) (p : Nat) (e : Printer) : State :=
  let jobs := e.queue.filterMap s.job
  let leaving := jobs.filter Job.mayLeave
  let s1 := (leaving.foldl (State.giveBack e) s).cancelHead e
  let s2 := (s1.leaveGroups p).release e.station
  let s3 := { s2 with delivery := { s2.delivery with printers := tableDrop s2.delivery.printers p } }
  (s3.notify (.printerState p e.station e.found .absent none e.pause)).bindIn (leaving.filterMap (·.group))

/-- Whether a printer's head is PRINTING or ENDING (R165). -/
def State.headWorking (s : State) (e : Printer) : Bool :=
  match s.headJob e with
  | some j => j.delivery = .printing || j.delivery = .ending
  | none => false

/-- CLEAR_PRINTER (R165). -/
def State.clearPrinter (p : Nat) (e : Printer) (s : State) : State × Answer :=
  if s.headWorking e then refuse .state s else okEmpty (s.clearEntry p e)

def execClearPrinter (tag printer : Byte) (s : State) : Host.Outcome State Fault Refusal :=
  s.request 0x83 tag (onPrinter printer State.clearPrinter)

/-! ## HOLD_PRINTER, RELEASE_PRINTER (R163) -/

/-- HOLD_PRINTER (R163); on a printer already held it changes nothing. -/
def State.holdPrinter (p : Nat) (e : Printer) (s : State) : State × Answer :=
  if e.pause.held then okEmpty s
  else okEmpty (((s.setPrinter p { e with pause := { e.pause with held := true } }).holdHead e).touch p [])

def execHoldPrinter (tag printer : Byte) (s : State) : Host.Outcome State Fault Refusal :=
  s.request 0x84 tag (onPrinter printer State.holdPrinter)

/-- RELEASE_PRINTER (R163); on a printer neither held nor stopped it changes nothing. -/
def State.releasePrinter (p : Nat) (e : Printer) (s : State) : State × Answer :=
  if !e.pause.held && !e.pause.stopped then okEmpty s
  else okEmpty ((s.setPrinter p { e with pause := { e.pause with held := false, stopped := false } }).touch p [])

def execReleasePrinter (tag printer : Byte) (s : State) : Host.Outcome State Fault Refusal :=
  s.request 0x85 tag (onPrinter printer State.releasePrinter)

/-! ## Reading (R147, R167) -/

/-- GET_PRINTER (R167): an unused entry is answered with the state ABSENT alone. -/
def State.getPrinter (printer : Byte) (s : State) : State × Answer :=
  if printerCount ≤ printer.toNat then refuse .range s
  else
    match s.printer printer.toNat with
    | some e => okWith s (s.printerBody printer.toNat e)
    | none => okWith s [PrinterState.absent.byte]

def execGetPrinter (tag printer : Byte) (s : State) : Host.Outcome State Fault Refusal :=
  s.request 0x86 tag (State.getPrinter printer)

/-- Judge a request's job number (R142, R147). -/
def onJob (n : Half) (act : Job → State → State × Answer) (s : State) : State × Answer :=
  if n = 0 then refuse .range s
  else
    match s.job n with
    | some j => act j s
    | none => refuse .notFound s

/-- GET_JOB (R147). -/
def State.getJob (j : Job) (s : State) : State × Answer := okWith s j.body

def execGetJob (tag : Byte) (job : Half) (s : State) : Host.Outcome State Fault Refusal := s.request 0x87 tag (onJob job State.getJob)

/-- CANCEL_JOB (R142). -/
def State.cancelJob (j : Job) (s : State) : State × Answer := okEmpty (s.endJob j .cancelled)

def execCancelJob (tag : Byte) (job : Half) (s : State) : Host.Outcome State Fault Refusal :=
  s.request 0x88 tag (onJob job State.cancelJob)

/-- LIST_JOBS (R147). -/
def State.listJobs (start : Half) (s : State) : State × Answer :=
  if start = 0 then refuse .range s else okWith s (s.jobListBody start)

def execListJobs (tag : Byte) (start : Half) (s : State) : Host.Outcome State Fault Refusal :=
  s.request 0x89 tag (State.listJobs start)

/-- SET_JOB_IDLE (R146). -/
def State.setJobIdle (time : Half) (s : State) : State × Answer :=
  let t := clamp 5 600 time.toNat
  okWith { s with intake := { s.intake with idleTime := t } } (nat2 t)

def execSetJobIdle (tag : Byte) (time : Half) (s : State) : Host.Outcome State Fault Refusal :=
  s.request 0x8A tag (State.setJobIdle time)

end Sys2Proof.Machine
end

