-- ==== Sys2Proof/Machine/SegmentRequests.lean ====
section
/-! DEFINITION. The segment requests (chapters 1 to 4). Each names its segment first; one above 3 is refused with RANGE
(R18). -/

namespace Sys2Proof.Machine

/-- Judge a request's segment number (R18). -/
def onSegment (seg : Byte) (act : SegIx → State → State × Answer) (s : State) : State × Answer :=
  match segOf seg with
  | some i => act i s
  | none => refuse .range s

/-! ## SET_SEGMENT_CONFIG (R21, R42) -/

/-- The settings a SET_SEGMENT_CONFIG body carries, clamped: supervision settings, park load policy, settle time. A value
with no meaning gives none (R170). -/
def configOf (b : SegmentConfigBody) : Option (SupSettings × ParkPolicy × Nat) :=
  match condSetOf b.isolateSet, flagOf b.autoIsolate, flagOf b.autoRejoin, flagOf b.autoTest, policyOf b.parkPolicy with
  | some set, some isolate, some rejoin, some test, some policy =>
    some ({ window := clamp 1 255 b.window.toNat, shift := clamp 0 4 b.shift.toNat, high := clamp 0 1023 b.high.toNat,
            low := clamp 0 1023 b.low.toNat, strikes := clamp 1 8 b.strikes.toNat,
            rejoinWindows := clamp 1 32 b.rejoinWindows.toNat, maskWindows := clamp 0 8 b.maskWindows.toNat, isolateSet := set,
            autoIsolate := isolate, autoRejoin := rejoin, autoTest := test, flapLimit := clamp 1 7 b.flapLimit.toNat,
            vf := clamp 500 990 b.vf.toNat }, policy, clamp 1 255 b.settleTime.toNat)
  | _, _, _, _, _ => none

/-- The port's own two settings taken: at PARK the line code follows the policy at once (R21). -/
def Port.configure (p : Port) (policy : ParkPolicy) (settleTime : Nat) : Port :=
  { p with
    policy := policy
    settleTime := settleTime
    lineCode := if p.relay = .park then policy.code p.trim else p.lineCode }

/-- SET_SEGMENT_CONFIG (R42): enumerated values first (R170), thresholds clamped and then judged. -/
def State.setConfig (b : SegmentConfigBody) (i : SegIx) (s : State) : State × Answer :=
  match configOf b with
  | none => refuse .range s
  | some (c, policy, settleTime) =>
    if c.low < c.high then
      okWith ((s.setSup i { s.sup i with settings := c }).setPort i ((s.port i).configure policy settleTime))
        ([segByte i] ++ c.bytes ++ [policy.byte] ++ nat1 settleTime)
    else refuse .range s

def execSetSegmentConfig (tag seg : Byte) (body : SegmentConfigBody) (s : State) : Host.Outcome State Fault Refusal :=
  s.request 0x20 tag (onSegment seg (State.setConfig body))

/-! ## State requests (R24, R27, R29, R30, R33) -/

/-- ENABLE (R24). -/
def State.enable (i : SegIx) (s : State) : State × Answer :=
  match (s.port i).state with
  | .disabled => okEmpty (s.changeState i .settling none .request)
  | _ => refuse .state s

def execEnableSegment (tag seg : Byte) (s : State) : Host.Outcome State Fault Refusal :=
  s.request 0x21 tag (onSegment seg State.enable)

/-- The test on a segment being disabled ends ABORTED: its notice, and the tester freed (R33, R80; log entry 28). -/
def State.abortForDisable (s : State) (i : SegIx) : State :=
  match s.tester.context with
  | some c =>
    if c.segment = i then (s.notify (.testResult (s.testReport c .aborted none))).freeTester else s
  | none => s

/-- DISABLE (R33); the supervision context and the pending flag are cleared in the same event (log entry 15). -/
def State.disable (i : SegIx) (s : State) : State × Answer :=
  if (s.port i).state = .disabled then okEmpty s
  else
    let s1 := (s.setPending i false).abortForDisable i
    let s2 := s1.changeState i .disabled none .request
    okEmpty (s2.setSup i (s2.sup i).disabled)

def execDisableSegment (tag seg : Byte) (s : State) : Host.Outcome State Fault Refusal :=
  s.request 0x22 tag (onSegment seg State.disable)

/-- ISOLATE (R27). -/
def State.isolate (i : SegIx) (s : State) : State × Answer :=
  match (s.port i).state with
  | .forwarding => okEmpty (s.changeState i .isolated (some .requested) .request)
  | .settling => okEmpty (s.changeState i .isolated (some .requested) .request)
  | _ => refuse .state s

def execIsolateSegment (tag seg : Byte) (s : State) : Host.Outcome State Fault Refusal :=
  s.request 0x23 tag (onSegment seg State.isolate)

/-- REJOIN taken: SETTLING, and the flap count set to 0 with its timer stopped (R29, R58). -/
def State.rejoinTaken (i : SegIx) (s : State) : State × Answer :=
  let s1 := s.changeState i .settling none .request
  okEmpty (s1.setSup i (s1.sup i).clearFlaps)

/-- REJOIN (R29). -/
def State.rejoin (i : SegIx) (s : State) : State × Answer :=
  match (s.port i).state with
  | .isolated => s.rejoinTaken i
  | .parked => s.rejoinTaken i
  | .testing => refuse .busy s
  | _ => refuse .state s

def execRejoinSegment (tag seg : Byte) (s : State) : Host.Outcome State Fault Refusal :=
  s.request 0x24 tag (onSegment seg State.rejoin)

/-- PARK (R30). -/
def State.park (i : SegIx) (s : State) : State × Answer :=
  match (s.port i).state with
  | .parked => okEmpty s
  | .testing => refuse .busy s
  | .disabled => refuse .state s
  | _ => okEmpty (s.changeState i .parked none .request)

def execParkSegment (tag seg : Byte) (s : State) : Host.Outcome State Fault Refusal :=
  s.request 0x25 tag (onSegment seg State.park)

/-! ## SET_TRIM (R22) -/

/-- The port with a new trim code: the line code follows where the trim code is on the line (R21, R22). -/
def Port.setTrim (p : Port) (code : LoadCode) : Port :=
  { p with
    trim := code
    lineCode := match p.state with
      | .testing => p.lineCode
      | .disabled => if p.policy = .retain then code else p.lineCode
      | .parked => if p.policy = .retain then code else p.lineCode
      | _ => code }

/-- SET_TRIM (R22): code 0 is ignored on a FORWARDING segment. -/
def State.setTrim (code : Byte) (i : SegIx) (s : State) : State × Answer :=
  if 63 < code.toNat then refuse .range s
  else if code = 0 && (s.port i).state = .forwarding then okWith s [segByte i, (s.port i).trim.setWidth 8]
  else okWith (s.setPort i ((s.port i).setTrim (code.setWidth 6))) [segByte i, code]

def execSetTrim (tag seg code : Byte) (s : State) : Host.Outcome State Fault Refusal :=
  s.request 0x26 tag (onSegment seg (State.setTrim code))

/-! ## Line tests (R67, R79) -/

/-- START_LINE_TEST's arbitration on an ISOLATED or PARKED segment (R67). -/
def State.arbitrate (trim : Bool) (i : SegIx) (s : State) : State × Answer :=
  match s.tester.context with
  | some _ => refuse .busy s
  | none => (s.startTest i .request trim, ⟨.accepted, []⟩)

/-- START_LINE_TEST (R67). -/
def State.startLineTest (trim : Byte) (i : SegIx) (s : State) : State × Answer :=
  match flagOf trim with
  | none => refuse .range s
  | some wanted =>
    match (s.port i).state with
    | .testing => refuse .busy s
    | .isolated => s.arbitrate wanted i
    | .parked => s.arbitrate wanted i
    | _ => refuse .state s

def execStartLineTest (tag seg trim : Byte) (s : State) : Host.Outcome State Fault Refusal :=
  s.request 0x27 tag (onSegment seg (State.startLineTest trim))

/-- ABORT_LINE_TEST (R79). -/
def State.abortLineTest (i : SegIx) (s : State) : State × Answer :=
  match s.tester.context with
  | some c => if c.segment = i then okEmpty (s.abortTest c) else refuse .state s
  | none => refuse .state s

def execAbortLineTest (tag seg : Byte) (s : State) : Host.Outcome State Fault Refusal :=
  s.request 0x28 tag (onSegment seg State.abortLineTest)

/-! ## Reading and clearing (R18, R57, R61, R63, R64, R83) -/

/-- GET_SEGMENT (R18, R64, R83). -/
def State.getSegment (i : SegIx) (s : State) : State × Answer := okWith s (s.segmentBody i)

def execGetSegment (tag seg : Byte) (s : State) : Host.Outcome State Fault Refusal :=
  s.request 0x29 tag (onSegment seg State.getSegment)

/-- GET_FAULTS (R63). -/
def State.getFaults (i : SegIx) (s : State) : State × Answer := okWith s (s.sup i).faultBody

def execGetFaults (tag seg : Byte) (s : State) : Host.Outcome State Fault Refusal :=
  s.request 0x2A tag (onSegment seg State.getFaults)

/-- CLEAR_FAULTS (R57). -/
def State.clearFaults (i : SegIx) (s : State) : State × Answer :=
  okEmpty (s.setSup i { s.sup i with latched := CondSet.clear })

def execClearFaults (tag seg : Byte) (s : State) : Host.Outcome State Fault Refusal :=
  s.request 0x2B tag (onSegment seg State.clearFaults)

/-- CLEAR_HISTORY (R61). -/
def State.clearHistory (i : SegIx) (s : State) : State × Answer := okEmpty (s.setSup i { s.sup i with history := [] })

def execClearHistory (tag seg : Byte) (s : State) : Host.Outcome State Fault Refusal :=
  s.request 0x2C tag (onSegment seg State.clearHistory)

/-! ## SET_SYNC_WORD (R7) -/

/-- SET_SYNC_WORD (R7). -/
def State.setSyncWord (index : Byte) (pattern : SyncWord) (tolerance enabled : Byte) (s : State) : State × Answer :=
  match syncOf index, flagOf enabled with
  | some i, some on =>
    okWith { s with syncs := s.syncs.set i ⟨pattern, clamp 0 3 tolerance.toNat, on⟩ }
      ([index] ++ patternBytes pattern ++ nat1 (clamp 0 3 tolerance.toNat) ++ [enabled])
  | _, _ => refuse .range s

def execSetSyncWord (tag index : Byte) (pattern : SyncWord) (tolerance enabled : Byte) (s : State) :
    Host.Outcome State Fault Refusal :=
  s.request 0x2D tag (State.setSyncWord index pattern tolerance enabled)

end Sys2Proof.Machine
end

