-- ==== Sys2Proof/Machine/UplinkRequests.lean ====
section
/-! DEFINITION. The uplink, port and pool requests (chapters 1, 6 and 7). -/

namespace Sys2Proof.Machine

/-- SET_UPLINK (R116): the yes-or-no field first (R170), then the EtherType. -/
def State.setUplink (etherType : Half) (broadcast : Byte) (s : State) : State × Answer :=
  match flagOf broadcast with
  | none => refuse .range s
  | some on =>
    if etherType.toNat < 0x0600 then refuse .range s
    else okEmpty { s with uplink := { s.uplink with etherType := etherType, broadcast := on } }

def execSetUplink (tag : Byte) (etherType : Half) (broadcast : Byte) (s : State) : Host.Outcome State Fault Refusal :=
  s.request 0x60 tag (State.setUplink etherType broadcast)

/-- A segment port with every counter at 0 (R17, R40, R115). -/
def Port.countersCleared (p : Port) : Port :=
  { p with
    rx := ⟨0, 0, 0, 0, 0, 0⟩
    tx := ⟨0, 0, 0, 0⟩
    fwd := ⟨0, 0, 0, 0, 0, 0, 0, 0⟩ }

/-- The uplink with every counter at 0 (R115, R122). -/
def Uplink.countersCleared (u : Uplink) : Uplink :=
  { u with
    counters := ⟨0, 0, 0, 0, 0, 0, 0, 0, 0⟩
    fwd := ⟨0, 0, 0, 0, 0, 0, 0, 0⟩ }

/-- GET_PORT_COUNTERS (R17, R40, R115, R122): the clear option clears the counters once they stand in the reply. -/
def State.getPortCounters (port clear : Byte) (s : State) : State × Answer :=
  match flagOf clear with
  | none => refuse .range s
  | some wanted =>
    match segOf port with
    | some i =>
      okWith (if wanted then s.setPort i (s.port i).countersCleared else s) (s.port i).counterBody
    | none =>
      if port = 4 then
        okWith (if wanted then { s with uplink := s.uplink.countersCleared } else s) s.uplink.counterBody
      else refuse .range s

def execGetPortCounters (tag port clear : Byte) (s : State) : Host.Outcome State Fault Refusal :=
  s.request 0x61 tag (State.getPortCounters port clear)

/-- The transit reserve taken: at most 896 and at most the pages not held by jobs (R129). -/
def State.reserveTaken (s : State) (reserve : Nat) : Nat := min reserve (min 896 (poolPages - s.jobHeld))

/-- SET_POOL (R129). -/
def State.setPool (reserve quota : Half) (s : State) : State × Answer :=
  let r := s.reserveTaken reserve.toNat
  let q := clamp 4 512 quota.toNat
  okWith { s with pool := { s.pool with reserve := r, quota := q } } (nat2 r ++ nat2 q)

def execSetPool (tag : Byte) (reserve quota : Half) (s : State) : Host.Outcome State Fault Refusal :=
  s.request 0x70 tag (State.setPool reserve quota)

/-- GET_POOL (R131): the lowest free figure is set to the free count after the reply is formed. -/
def State.getPool (s : State) : State × Answer :=
  okWith { s with pool := { s.pool with lowestFree := s.freePages } } s.poolBody

def execGetPool (tag : Byte) (s : State) : Host.Outcome State Fault Refusal := s.request 0x71 tag State.getPool

end Sys2Proof.Machine
end

