-- ==== Sys2Proof/Machine/Line.lean ====
section
/-! DEFINITION. The management line (R169 to R172): the receiver, the judging of messages, and what follows a message sent. -/

namespace Sys2Proof.Machine

/-- What carries a request out; none for a command that is no request. -/
def handlerOf : Instr → Option (State → State × Answer)
  | .getInfo _ => some State.getInfo
  | .getStatus _ => some State.getStatus
  | .reset _ => some State.takeReset
  | .setNotices _ kinds => some (State.setNotices kinds)
  | .setSegmentConfig _ seg body => some (onSegment seg (State.setConfig body))
  | .enableSegment _ seg => some (onSegment seg State.enable)
  | .disableSegment _ seg => some (onSegment seg State.disable)
  | .isolateSegment _ seg => some (onSegment seg State.isolate)
  | .rejoinSegment _ seg => some (onSegment seg State.rejoin)
  | .parkSegment _ seg => some (onSegment seg State.park)
  | .setTrim _ seg code => some (onSegment seg (State.setTrim code))
  | .startLineTest _ seg trim => some (onSegment seg (State.startLineTest trim))
  | .abortLineTest _ seg => some (onSegment seg State.abortLineTest)
  | .getSegment _ seg => some (onSegment seg State.getSegment)
  | .getFaults _ seg => some (onSegment seg State.getFaults)
  | .clearFaults _ seg => some (onSegment seg State.clearFaults)
  | .clearHistory _ seg => some (onSegment seg State.clearHistory)
  | .setSyncWord _ index pattern tolerance enabled => some (State.setSyncWord index pattern tolerance enabled)
  | .getStation _ number => some (onNumber number State.getStation)
  | .listStations _ number => some (onNumber number State.listStations)
  | .pin _ number seg => some (onNumber number (State.pin seg))
  | .unpin _ number => some (onNumber number State.unpin)
  | .forget _ number => some (onNumber number State.forget)
  | .setAging _ unit hold => some (State.setAging unit hold)
  | .setGatewayNumber _ number => some (onNumber number State.setGateway)
  | .setAlias _ index number mac => some (onNumber number (State.setAlias index mac))
  | .clearAlias _ index => some (State.clearAlias index)
  | .setProxyBase _ mac => some (State.setProxyBase mac)
  | .setUplink _ etherType broadcast => some (State.setUplink etherType broadcast)
  | .getPortCounters _ port clear => some (State.getPortCounters port clear)
  | .setPool _ reserve quota => some (State.setPool reserve quota)
  | .getPool _ => some State.getPool
  | .setGroup _ group service mode threshold members rebind =>
    some (State.setGroup group service mode threshold members rebind)
  | .clearGroup _ group => some (State.clearGroup group)
  | .setPrinter _ printer station rate blockTimeout endTimeout stopAfter =>
    some (State.setPrinterRequest printer station rate blockTimeout endTimeout stopAfter)
  | .clearPrinter _ printer => some (onPrinter printer State.clearPrinter)
  | .holdPrinter _ printer => some (onPrinter printer State.holdPrinter)
  | .releasePrinter _ printer => some (onPrinter printer State.releasePrinter)
  | .getPrinter _ printer => some (State.getPrinter printer)
  | .getJob _ job => some (onJob job State.getJob)
  | .cancelJob _ job => some (onJob job State.cancelJob)
  | .listJobs _ start => some (State.listJobs start)
  | .setJobIdle _ time => some (State.setJobIdle time)
  | .pinOrPowerReset _ _ => none
  | .timeBaseTick => none
  | .messageReceived _ => none
  | .messageSent _ _ => none
  | .activityStart _ => none
  | .syncWordComplete _ _ => none
  | .activityEnd _ _ => none
  | .collisionDetected _ => none
  | .jabberMark _ => none
  | .transmitAttempt _ => none
  | .backoffExpiry _ => none
  | .copySent _ => none
  | .settleTimerExpiry _ => none
  | .isolationOrder _ => none
  | .rejoinOrder _ => none
  | .isolationOrderResult _ => none
  | .supervisorStateEntry _ => none
  | .testerSegmentLeftIsolated _ => none
  | .windowExpiry _ => none
  | .flapTimerExpiry _ => none
  | .autoTestRequest _ => none
  | .quietCheckPassed => none
  | .quietCheckFailed => none
  | .quietWaitExpiry => none
  | .probeDisturbed => none
  | .rangingComplete _ => none
  | .trimProbeComplete _ _ => none
  | .agingTimerExpiry => none
  | .uplinkUp => none
  | .uplinkDown => none
  | .tunnelFrameReceived _ => none
  | .uplinkTransmitStart => none
  | .uplinkSendDone _ => none
  | .idleTimerExpiry _ => none
  | .jobChangeTaken => none
  | .printerEvaluation => none
  | .blockTimerExpiry _ => none
  | .retryTimerExpiry _ => none
  | .endTimerExpiry _ => none
  | .resetPinHeld => none

/-! ## Judging a complete message (R170) -/

/-- Judge a decoded message by lines 2 to 6 of R170. -/
def State.judgeMessage (s : State) (kind code tag : Byte) (body : List Byte) : State :=
  if kind ≠ kindRequest || tag = 0 then s.fileRefusal formatRefusal
  else if s.mgmt.reply.isSome then s.fileRefusal (replyMsg code tag .sequence [])
  else
    match (decodeRequest code tag body).bind handlerOf with
    | some handler => s.carryOut code tag handler
    | none => s.fileReply (replyMsg code tag .format [])

/-- Judge the content of a message that closed without a line error or bad escape (R169, R170). -/
def State.judgeContent (s : State) : List Byte → State
  | [] => s
  | kind :: code :: tag :: l1 :: l0 :: body =>
    let n := bytesNat [l1, l0]
    if maxBody < n || body.length ≠ n then s.fileRefusal formatRefusal else s.judgeMessage kind code tag body
  | _ => s.fileRefusal formatRefusal

/-- A delimiter closes the message in the buffer and opens the next (R169). -/
def State.closeMessage (s : State) : State :=
  let rx := s.mgmt.rx
  let s1 := s.bufferEmptied
  if rx.hunting then s1
  else if rx.bad || rx.escaped then s1.fileRefusal formatRefusal
  else s1.judgeContent rx.content

/-! ## The receiver (R169) -/

/-- Content bytes the receive buffer holds (R169). -/
def bufferCapacity : Nat := 305

/-- One content byte more; past 305 the message is undecodable (R169). -/
def RxBuffer.add (r : RxBuffer) (b : Byte) : RxBuffer :=
  if r.content.length < bufferCapacity then { r with content := r.content ++ [b], escaped := false }
  else { r with bad := true, escaped := false }

/-- A byte other than a delimiter reaches the receiver (R169). -/
def RxBuffer.take (r : RxBuffer) (b : Byte) : RxBuffer :=
  if r.hunting then r
  else if r.escaped then r.add (b ^^^ 0x20)
  else if b = escapeByte then { r with escaped := true }
  else r.add b

/-- One item of the line (R168, R169). -/
def State.receiveItem (s : State) (item : LineItem) : State :=
  match item with
  | .byte b =>
    if b = delimiter then s.closeMessage
    else { s with mgmt := { s.mgmt with rx := s.mgmt.rx.take b } }
  | .lineError => { s with mgmt := { s.mgmt with rx := { s.mgmt.rx with bad := true } } }

/-- The items of a message and the delimiter that closes it (R169; log entry 6). -/
def State.receiveLine (s : State) (line : List LineItem) : State := (line.foldl State.receiveItem s).closeMessage

/-- MESSAGE_RECEIVED (R169, R170). Nothing is taken from the line while the reset pin is held (R178). -/
def execMessageReceived (line : List LineItem) (s : State) : Host.Outcome State Fault Refusal :=
  (if s.mgmt.pinHeld then s else s.receiveLine line).done

/-! ## A message sent (R171, R172, R179) -/

/-- A message's closing delimiter has been sent; it opens a message taken now (R169). -/
def Mgmt.closed (m : Mgmt) : Mgmt := { m with sending := none, opening := false }

/-- The closing delimiter of the reply has been sent: the reply slot empties; RESET's reply brings the reset (R171, R179). -/
def State.replySent (s : State) (strap1 strap2 : Bool) : State :=
  if s.mgmt.resetTaken then s.wholeReset .request strap1 strap2
  else { s with mgmt := { s.mgmt.closed with reply := none } }

/-- MESSAGE_SENT (R171, R172, R179): the strap levels are what a reset taken here samples. -/
def State.messageSent (s : State) (strap1 strap2 : Bool) : State :=
  match s.mgmt.sending with
  | none => s
  | some .reply => s.replySent strap1 strap2
  | some .refusal => { s with mgmt := { s.mgmt.closed with refusal := none } }
  | some (.notice _) => { s with mgmt := s.mgmt.closed }

def execMessageSent (strap1 strap2 : Bool) (s : State) : Host.Outcome State Fault Refusal := (s.messageSent strap1 strap2).done

end Sys2Proof.Machine
end

