-- ==== Sys2Proof/Machine/OrderEvents.lean ====
section
/-! DEFINITION. The settle timer, the orders and changes between Segment Port, Line Supervisor and Line Tester, and the
supervisor's timers (R23, R25, R28, R29, R43 to R58, R68). -/

namespace Sys2Proof.Machine

/-- SETTLE_TIMER_EXPIRY (R25): a level check of JABBER. -/
def State.settleExpiry (s : State) (i : SegIx) : State :=
  let p := s.port i
  if p.state = .settling && p.settleTimer.isRunning then
    if (s.sup i).live.jabber then s.changeState i .isolated (some (.fault .jabber)) .settleExpiry
    else s.changeState i .forwarding none .settleExpiry
  else s

def execSettleTimerExpiry (seg : SegIx) (s : State) : Host.Outcome State Fault Refusal := (s.settleExpiry seg).done

/-- The isolation order on its way to a segment's port. -/
def Raised.isolationOrderFor (i : SegIx) : Raised → Option (Condition × Bool)
  | .isolationOrder j c test => if i = j then some (c, test) else none
  | _ => none

/-- The port takes an isolation order, or tells the supervisor it was not taken (R28). -/
def State.takeIsolationOrder (i : SegIx) (o : Condition × Bool) (s : State) : State :=
  if (s.port i).state = .forwarding then
    (s.changeState i .isolated (some (.fault o.1)) .supervisor).raise (.orderResult i true o.1 o.2)
  else s.raise (.orderResult i false o.1 o.2)

/-- ISOLATION_ORDER (R28). -/
def execIsolationOrder (seg : SegIx) (s : State) : Host.Outcome State Fault Refusal :=
  (s.take (Raised.isolationOrderFor seg) (State.takeIsolationOrder seg)).done

/-- The rejoin order on its way to a segment's port. -/
def Raised.rejoinOrderFor (i : SegIx) : Raised → Option Unit
  | .rejoinOrder j => if i = j then some () else none
  | _ => none

/-- The port takes a rejoin order; one that finds the segment in another state is not taken (R29). -/
def State.takeRejoinOrder (i : SegIx) (_ : Unit) (s : State) : State :=
  if (s.port i).state = .isolated then s.changeState i .settling none .supervisor else s

/-- REJOIN_ORDER (R29). -/
def execRejoinOrder (seg : SegIx) (s : State) : Host.Outcome State Fault Refusal :=
  (s.take (Raised.rejoinOrderFor seg) (State.takeRejoinOrder seg)).done

/-- The port's word on an order, on its way to the supervisor. -/
def Raised.orderResultFor (i : SegIx) : Raised → Option (Bool × Condition × Bool)
  | .orderResult j taken c test => if i = j then some (taken, c, test) else none
  | _ => none

/-- The supervisor learns whether its order was taken: a flap, and an automatic test for TX_BLOCKED or HEALTH (R55) when
auto-test was on at the latch (R42). -/
def State.takeOrderResult (i : SegIx) (r : Bool × Condition × Bool) (s : State) : State :=
  if r.1 then
    let s1 := s.setSup i (s.sup i).addFlap
    if r.2.2 && r.2.1 ≠ .jabber then s1.raise (.autoTest i) else s1
  else s

/-- ISOLATION_ORDER_RESULT (R55). -/
def execIsolationOrderResult (seg : SegIx) (s : State) : Host.Outcome State Fault Refusal :=
  (s.take (Raised.orderResultFor seg) (State.takeOrderResult seg)).done

/-- A state change on its way to a segment's supervision context. -/
def Raised.stateEntryFor (i : SegIx) : Raised → Option (SegState × SegState × Option IsoReason)
  | .stateEntry j old new reason => if i = j then some (old, new, reason) else none
  | _ => none

/-- SUPERVISOR_STATE_ENTRY (R43, R56). -/
def execSupervisorStateEntry (seg : SegIx) (s : State) : Host.Outcome State Fault Refusal :=
  (s.take (Raised.stateEntryFor seg) fun e t => t.superviseEntry seg e.1 e.2.1 e.2.2).done

/-- A segment's leaving ISOLATED, on its way to the tester. -/
def Raised.leftIsolatedFor (i : SegIx) : Raised → Option Unit
  | .leftIsolated j => if i = j then some () else none
  | _ => none

/-- TESTER_SEGMENT_LEFT_ISOLATED (R23, R70): the pending flag is cleared. -/
def execTesterSegmentLeftIsolated (seg : SegIx) (s : State) : Host.Outcome State Fault Refusal :=
  (s.take (Raised.leftIsolatedFor seg) fun _ t => t.setPending seg false).done

/-- WINDOW_EXPIRY (R45 to R50). -/
def State.windowExpiry (s : State) (i : SegIx) : State :=
  if (s.sup i).windowTimer.isRunning then s.expireWindow i else s

def execWindowExpiry (seg : SegIx) (s : State) : Host.Outcome State Fault Refusal := (s.windowExpiry seg).done

/-- One flap fewer; the timer goes on while the count is above 0 (R58). -/
def Supervision.forgetFlap (c : Supervision) : Supervision :=
  { c with
    flaps := c.flaps - 1
    flapTimer := if 1 < c.flaps then .running flapTime else .stopped }

/-- FLAP_TIMER_EXPIRY (R58). -/
def State.flapExpiry (s : State) (i : SegIx) : State :=
  if (s.sup i).flapTimer.isRunning then s.setSup i (s.sup i).forgetFlap else s

def execFlapTimerExpiry (seg : SegIx) (s : State) : Host.Outcome State Fault Refusal := (s.flapExpiry seg).done

/-- An automatic test request on its way to the tester. -/
def Raised.autoTestFor (i : SegIx) : Raised → Option Unit
  | .autoTest j => if i = j then some () else none
  | _ => none

/-- The tester takes an automatic test request (R68). -/
def State.takeAutoTest (i : SegIx) (_ : Unit) (s : State) : State :=
  if (s.port i).state = .isolated then
    match s.tester.context with
    | none => s.startTest i .automatic false
    | some _ => s.setPending i true
  else s

/-- AUTO_TEST_REQUEST (R68). -/
def execAutoTestRequest (seg : SegIx) (s : State) : Host.Outcome State Fault Refusal :=
  (s.take (Raised.autoTestFor seg) (State.takeAutoTest seg)).done

end Sys2Proof.Machine
end

