-- ==== Sys2Proof/Machine/PrintEvents.lean ====
section
/-! DEFINITION. The timers of jobs and printers, and the changes Printer Delivery takes as events of its own (R138, R141, R151,
R158, R160). -/

namespace Sys2Proof.Machine

/-- IDLE_TIMER_EXPIRY (R141). -/
def State.idleExpiry (s : State) (n : Half) : State :=
  match s.job n with
  | some j => if j.idleTimer.isRunning then s.endJob j .abandoned else s
  | none => s

def execIdleTimerExpiry (job : Half) (s : State) : Host.Outcome State Fault Refusal := (s.idleExpiry job).done

/-- A job's opening, growth or closing, on its way to Printer Delivery. -/
def Raised.jobChangeOf : Raised → Option (Half × Option Nat)
  | .jobChange n g => some (n, g)
  | _ => none

/-- The block a printer waits for is sent when the job that changed is its head (R156). -/
def State.sendIfHead (s : State) (p : Nat) (n : Half) : State :=
  match s.printer p with
  | some e => if e.queue.head? = some n then s.sendNext p else s
  | none => s

/-- Printer Delivery takes a job's change: it sends the block a bound job's printer waits for (R156), and tries binding in
the group (R138, R153). -/
def State.takeJobChange (c : Half × Option Nat) (s : State) : State :=
  match (s.job c.1).bind Job.printer with
  | some p => (s.sendIfHead p c.1).touch p c.2.toList
  | none => s.bindIn c.2.toList

/-- JOB_CHANGE_TAKEN (R138). -/
def execJobChangeTaken (s : State) : Host.Outcome State Fault Refusal := (s.take Raised.jobChangeOf State.takeJobChange).done

/-- What calls for an evaluation of printers: a station change naming a number, a segment or uplink change, or a job ended on a
printer (R104, R151). -/
inductive EvaluationCall where
  | number (n : Byte)
  | everyPrinter
  | printer (p : Nat)
  deriving DecidableEq, Repr

/-- The call a raised event makes. -/
def Raised.evaluationOf : Raised → Option EvaluationCall
  | .stationChange n => some (.number n)
  | .segmentChange _ => some .everyPrinter
  | .uplinkChange => some .everyPrinter
  | .jobEnded p => some (.printer p)
  | _ => none

/-- The printers a call evaluates, ascending. -/
def State.calledPrinters (s : State) : EvaluationCall → List Nat
  | .number n => ((s.printerOf n).map Prod.fst).toList
  | .everyPrinter => s.delivery.printers.map Prod.fst
  | .printer p => [p]

/-- The groups an ended job's printer calls for when its queue is empty (R153). -/
def State.emptyQueueGroups (s : State) : EvaluationCall → List Nat
  | .printer p =>
    match s.printer p with
    | some e => if e.queue = [] then s.groupsOf p else []
    | none => []
  | _ => []

/-- Evaluate printers one after another, then try binding in the groups they call for (R151, R153). Printers go in the order
given, which is ascending, and binding follows the last of them (log entry 43). -/
def State.evaluateAll (s : State) (ps gs : List Nat) : State :=
  let (s1, more) := ps.foldl (fun (acc : State × List Nat) p =>
    let (s1, g) := acc.1.evaluate p
    (s1, acc.2 ++ g)) (s, gs)
  s1.bindIn more

/-- Printer Delivery takes a change that calls for an evaluation (R151). -/
def State.takeEvaluation (c : EvaluationCall) (s : State) : State := s.evaluateAll (s.calledPrinters c) (s.emptyQueueGroups c)

/-- PRINTER_EVALUATION (R151). -/
def execPrinterEvaluation (s : State) : Host.Outcome State Fault Refusal :=
  (s.take Raised.evaluationOf State.takeEvaluation).done

/-! ## A printer's timers (R158, R160) -/

/-- BLOCK_TIMER_EXPIRY (R158). -/
def State.blockTimerExpiry (s : State) (p : Nat) : State :=
  match s.printer p with
  | some e =>
    match e.flight, s.headJob e with
    | some f, some j => if e.blockTimer.isRunning then s.blockExpired p e f j else s
    | _, _ => s
  | none => s

def execBlockTimerExpiry (printer : Fin 16) (s : State) : Host.Outcome State Fault Refusal := (s.blockTimerExpiry printer.val).done

/-- A block in retry wait is offered again, or ended when its job is HELD (R158). -/
def State.retryExpired (s : State) (p : Nat) (e : Printer) (f : Flight) (j : Job) : State :=
  if j.delivery = .printing then
    ((s.offerFlight e.station f).setPrinter p { e with
      flight := some { f with outstanding := true }
      retryTimer := .stopped
      blockTimer := .running e.blockTimeout }).touch p []
  else (s.setPrinter p { e with flight := none, retryTimer := .stopped }).touch p []

/-- RETRY_TIMER_EXPIRY (R158). -/
def State.retryTimerExpiry (s : State) (p : Nat) : State :=
  match s.printer p with
  | some e =>
    match e.flight, s.headJob e with
    | some f, some j => if e.retryTimer.isRunning then s.retryExpired p e f j else s
    | _, _ => s
  | none => s

def execRetryTimerExpiry (printer : Fin 16) (s : State) : Host.Outcome State Fault Refusal := (s.retryTimerExpiry printer.val).done

/-- END_TIMER_EXPIRY (R160): the job finishes with its pending outcome or UNCONFIRMED, and NO_END is added. -/
def State.endTimerExpiry (s : State) (p : Nat) : State :=
  match s.printer p with
  | some e =>
    match s.headJob e with
    | some j =>
      if e.endTimer.isRunning && j.delivery = .ending then
        let e1 := { e with pause := { e.pause with noEnd := true } }
        (s.setPrinter p e1).finishHere p e1 j (j.pendingOutcome.getD .unconfirmed)
      else s
    | none => s
  | none => s

def execEndTimerExpiry (printer : Fin 16) (s : State) : Host.Outcome State Fault Refusal := (s.endTimerExpiry printer.val).done

end Sys2Proof.Machine
end

