-- ==== Sys2Proof/Machine/ReceiverEvents.lean ====
section
/-! DEFINITION. The events of a segment receiver (R1, R2, R8, R10 to R16). -/

namespace Sys2Proof.Machine

/-- Whether an attempt of the part's own transmitter is on the line. -/
def Port.isSending (p : Port) : Bool :=
  match p.current with
  | some ⟨_, _, _, _, .sending _⟩ => true
  | _ => false

/-- A reception that has just begun (R2). -/
def newReception : Reception := ⟨.awaited, false, false⟩

/-- Carrier appears: the stretch is timed in the states that detect jabber, and a reception begins unless the part's own
transmitter has the line (R1, R2, R12). In TESTING none begins, nor later in that stretch (log entry 40). -/
def Port.carrierUp (p : Port) : Port :=
  let listens := p.state.detectsJabber
  { p with receiver :=
    { lineCarrier := true, collisionSeen := false, marked := false,
      carrierTimer := if listens then .running jabberTime else .stopped,
      reception := if listens && !p.isSending then some newReception else none } }

/-- ACTIVITY_START (R2): carrier appears on a quiet line. -/
def State.activityStart (s : State) (i : SegIx) : State :=
  if (s.port i).receiver.lineCarrier then s else s.setPort i (s.port i).carrierUp

def execActivityStart (seg : SegIx) (s : State) : Host.Outcome State Fault Refusal := (s.activityStart seg).done

/-- SYNC_WORD_COMPLETE (R8, R9): the word is correlated against the entries as they stand, once per reception. -/
def State.syncComplete (s : State) (i : SegIx) (w : SyncWord) : State :=
  let p := s.port i
  match p.receiver.reception with
  | some ⟨.awaited, collided, cut⟩ =>
    s.setPort i { p with receiver := { p.receiver with reception := some ⟨correlate s.syncs w, collided, cut⟩ } }
  | _ => s

def execSyncWordComplete (seg : SegIx) (word : SyncWord) (s : State) : Host.Outcome State Fault Refusal :=
  (s.syncComplete seg word).done

/-! ## Activity end (R10, R13, R14) -/

/-- The frame in the bytes after an accepted sync word, if they are good: whole, of the length they claim, with a good CRC
(R5, R10). -/
def goodFrame (bytes : List Byte) : Option Frame :=
  match headerOf bytes with
  | some (h, rest) =>
    let n := h.len.toNat
    if maxPayload < n || bytes.length ≠ 8 + n then none
    else if rest.drop n = halfBytes (trunkCrc (bytes.take (6 + n))) then some ⟨h, rest.take n⟩
    else none
  | none => none

/-- The class of a reception (R10). -/
inductive RxClass where
  | jabberCut
  | collision
  | unsynced
  | runt
  | corrupt
  | good (sync : SyncIx) (marginal : Bool) (frame : Frame)
  deriving DecidableEq, Repr

/-- Class a reception at its end, in the order of R10. -/
def Reception.classify (r : Reception) (bytes : List Byte) : RxClass :=
  if r.jabberCut then .jabberCut
  else if r.collided then .collision
  else
    match r.sync with
    | .awaited => .unsynced
    | .rejected => .unsynced
    | .accepted i n =>
      if bytes.length < 8 then .runt
      else
        match goodFrame bytes with
        | some f => .good i (0 < n) f
        | none => .corrupt

/-- What a class feeds the window counts (R13). -/
def RxClass.window (c : RxClass) (w : WindowCounts) : WindowCounts :=
  match c with
  | .good _ marginal _ => { w with g := countUp w.g, m := if marginal then countUp w.m else w.m }
  | .runt => { w with c := countUp w.c }
  | .corrupt => { w with c := countUp w.c }
  | _ => w

/-- What a class feeds the receive counters (R13). -/
def RxClass.counters (c : RxClass) (r : RxCounters) : RxCounters :=
  match c with
  | .good _ marginal _ => { r with framesIn := r.framesIn + 1, marginal := if marginal then r.marginal + 1 else r.marginal }
  | .runt => { r with corrupt := r.corrupt + 1 }
  | .corrupt => { r with corrupt := r.corrupt + 1 }
  | .unsynced => { r with unsynced := r.unsynced + 1 }
  | _ => r

/-- A good frame is handed on with its sync index and marginal flag (R8): the Station Table learns its source, and the
Forwarding Engine takes it unless it was an address violation (R14, R86). -/
def State.handOn (s : State) (i : SegIx) (sync : SyncIx) (marginal : Bool) (f : Frame) : State :=
  match s.learn f.header.src i sync with
  | (s1, true) => s1.forward ⟨.segment i, .segment i (syncOne sync), marginal, f⟩
  | (s1, false) => s1

/-- Count a class and hand a good frame on, under the state the segment is in (R13, R14). -/
def State.receive (s : State) (i : SegIx) (c : RxClass) : State :=
  let s1 := (s.feedWindow i c.window).feedCounters i c.counters
  match c with
  | .good sync marginal f => if (s.port i).state = .forwarding then s1.handOn i sync marginal f else s1
  | _ => s1

/-- The receiver with no carrier on its line. -/
def Receiver.quiet (r : Receiver) : Receiver :=
  { r with
    lineCarrier := false
    collisionSeen := false
    marked := false
    carrierTimer := .stopped
    reception := none }

/-- ACTIVITY_END (R10): jabber stops with the carrier (R12), and a reception in a state that classifies gets its class. -/
def State.activityEnd (s : State) (i : SegIx) (bytes : List Byte) : State :=
  let p := s.port i
  if p.receiver.lineCarrier then
    let s1 := s.setPort i { p with receiver := p.receiver.quiet }
    let s2 := if p.receiver.marked then s1.jabberStopped i else s1
    match p.receiver.reception with
    | some r => if p.state.supervised then s2.receive i (r.classify bytes) else s2
    | none => s2
  else s

def execActivityEnd (seg : SegIx) (bytes : List Byte) (s : State) : Host.Outcome State Fault Refusal :=
  (s.activityEnd seg bytes).done

/-! ## The jabber mark (R12) -/

/-- The receiver at the jabber mark: the frame is abandoned, and the reception is jabber-cut unless a collision came first
(R10, R12). -/
def Receiver.mark (r : Receiver) : Receiver :=
  { r with
    marked := true
    carrierTimer := .stopped
    reception := r.reception.map fun x => { x with jabberCut := !x.collided } }

/-- JABBER_MARK (R12): effective while the stretch of carrier is timed toward its mark. -/
def State.jabberMark (s : State) (i : SegIx) : State :=
  let p := s.port i
  if p.receiver.carrierTimer.isRunning then
    let s1 := s.setPort i { p with receiver := p.receiver.mark }
    let s2 := s1.feedWindow i fun w => { w with j := countUp w.j }
    let s3 := s2.feedCounters i fun r => { r with jabber := r.jabber + 1 }
    s3.setLive i .jabber p.state
  else s

def execJabberMark (seg : SegIx) (s : State) : Host.Outcome State Fault Refusal := (s.jabberMark seg).done

end Sys2Proof.Machine
end

