-- ==== Sys2Proof/Machine/TesterEvents.lean ====
section
/-! DEFINITION. The events of the Line Tester (R71 to R78). -/

namespace Sys2Proof.Machine

/-- QUIET_CHECK_PASSED (R71): 1 ms without carrier ends an attempt in progress, and the stage that was waiting begins. -/
def State.quietPassed (s : State) : State :=
  match s.tester.context with
  | some c =>
    if c.stage = .quietCheck && !c.wait.isRunning && !(s.port c.segment).carrier then
      s.setContext (some { c with stage := c.waitingStage })
    else s
  | none => s

def execQuietCheckPassed (s : State) : Host.Outcome State Fault Refusal := s.quietPassed.done

/-- QUIET_CHECK_FAILED (R71): carrier in an attempt in progress. The command is the sighting itself, whatever the receiver
reports after it (R16; log entry 41). -/
def State.quietFailed (s : State) : State :=
  match s.tester.context with
  | some c => if c.stage = .quietCheck && !c.wait.isRunning then s.failQuiet c else s
  | none => s

def execQuietCheckFailed (s : State) : Host.Outcome State Fault Refusal := s.quietFailed.done

/-- QUIET_WAIT_EXPIRY (R71, R72): the next attempt begins. -/
def State.quietWaitExpiry (s : State) : State :=
  match s.tester.context with
  | some c =>
    if c.wait.isRunning then
      s.setContext (some { c with
        wait := .stopped
        attempts := if c.raiseAfterWait then c.attempts + 1 else c.attempts
        raiseAfterWait := false })
    else s
  | none => s

def execQuietWaitExpiry (s : State) : Host.Outcome State Fault Refusal := s.quietWaitExpiry.done

/-- PROBE_DISTURBED (R72): carrier while a probe is under way. The command is the sighting itself, whatever the receiver reports
after it (R16; log entry 41). -/
def State.probeDisturbed (s : State) : State :=
  match s.tester.context with
  | some c => if c.stage = .quietCheck then s else s.disturb c
  | none => s

def execProbeDisturbed (s : State) : Host.Outcome State Fault Refusal := s.probeDisturbed.done

/-- RANGING_COMPLETE (R73): what the line did after the pulse, as the ranging circuit sees it. DESIGN CHOICE (R72, R16; log entry
41): it has its effect even while the receiver reports carrier on the segment, since the pulse and its echoes may be that carrier. A
disturbance is a PROBE_DISTURBED instead. -/
def State.rangingComplete (s : State) (echo : RangingLine) : State :=
  match s.tester.context with
  | some c => if c.stage = .ranging then s.completeRanging c echo.probe echo.line else s
  | none => s

def execRangingComplete (echo : RangingLine) (s : State) : Host.Outcome State Fault Refusal :=
  (s.rangingComplete echo).done

/-- TRIM_PROBE_COMPLETE (R76, R77): the line's impedance as the probe reads it, `ohmNum` / `ohmDen` ohms. DESIGN CHOICE (R72, R16; log
entry 41): it has its effect even while the receiver reports carrier, as RANGING_COMPLETE has. -/
def State.trimProbeComplete (s : State) (ohmNum ohmDen : Nat) : State :=
  match s.tester.context with
  | some c => if c.stage = .trim then s.completeTrimProbe c ohmNum ohmDen else s
  | none => s

def execTrimProbeComplete (ohmNum ohmDen : Nat) (s : State) : Host.Outcome State Fault Refusal :=
  (s.trimProbeComplete ohmNum ohmDen).done

end Sys2Proof.Machine
end

