-- ==== Sys2Proof/Machine/TransmitEvents.lean ====
section
/-! DEFINITION. The events of a segment's transmitter, and the collision that concerns receiver and transmitter together
(R11, R36 to R40). -/

namespace Sys2Proof.Machine

/-! ## Attempts (R37) -/

/-- The attempt begins: the copy's pattern is fixed at its first attempt (R36), and preamble, sync word, header, payload and a
fresh CRC go out (R37). No jam has ended it so far (R38; log entry 45). -/
def State.startAttempt (s : State) (i : SegIx) (c : Current) (e : QEntry SyncSet) : State :=
  let index := c.copies.headD 0
  let pattern := c.pattern.getD (s.syncs.get index).pattern
  s.setPort i { s.port i with
    jam := none
    current := some { c with
      pattern := some pattern
      phase := .sending (lineFrame pattern e.header (s.payloadOf e.header e.source)) } }

/-- TRANSMIT_ATTEMPT (R37): effective when the transmitter is deferring and the line has no carrier. -/
def State.transmitAttempt (s : State) (i : SegIx) : State :=
  let p := s.port i
  match p.current, p.currentEntry with
  | some c, some e =>
    if c.phase = .deferring && !p.carrier && p.state = .forwarding then s.startAttempt i c e else s
  | _, _ => s

def execTransmitAttempt (seg : SegIx) (s : State) : Host.Outcome State Fault Refusal := (s.transmitAttempt seg).done

/-- BACKOFF_EXPIRY (R38): the slots have passed, and the transmitter defers for the next attempt. -/
def State.backoffExpiry (s : State) (i : SegIx) : State :=
  match (s.port i).current with
  | some ⟨service, copies, attempt, pattern, .backoff _⟩ =>
    s.setPort i { s.port i with current := some ⟨service, copies, attempt + 1, pattern, .deferring⟩ }
  | _ => s

def execBackoffExpiry (seg : SegIx) (s : State) : Host.Outcome State Fault Refusal := (s.backoffExpiry seg).done

/-- COPY_SENT (R39): effective while an attempt is on the line. -/
def State.copySent (s : State) (i : SegIx) : State :=
  let p := s.port i
  if p.isSending then
    let s1 := s.setPort i { p with tx := { p.tx with framesOut := p.tx.framesOut + 1 } }
    (s1.clearLive i .txBlocked).nextCopy i
  else s

def execCopySent (seg : SegIx) (s : State) : Host.Outcome State Fault Refusal := (s.copySent seg).done

/-! ## Collisions (R11, R38) -/

/-- Attempts a copy is given (R38). -/
def maxTransmitAttempts : Nat := 12

/-- The slots of a backoff after failed attempt `n`: a free value below 2^min(n, 8) (R38; log entry 8). -/
def State.backoffSlots (s : State) (n : Nat) : Nat := Config.backoffDraw s.draws % backoffRange n

/-- The transmitter stops the frame and drives a 32-bit jam, whose bits are a free value; the line is released after it (R38; log
entry 45). -/
def State.driveJam (s : State) (i : SegIx) : State :=
  s.setPort i { s.port i with jam := some (Config.jamDraw s.draws) }

/-- The transmitter's side of a collision during its attempt: the jam, then the backoff, or after the twelfth attempt the drop of
the copy (R38). -/
def State.attemptFailed (s : State) (i : SegIx) (c : Current) : State :=
  let s1 := s.driveJam i
  let p := s1.port i
  if c.attempt < maxTransmitAttempts then
    (s1.setPort i { p with current := some { c with phase := .backoff (s.backoffSlots c.attempt) } }).draw
  else
    let s2 := s1.draw.setPort i { p with tx := { p.tx with excess := p.tx.excess + 1 } }
    (s2.setLive i .txBlocked p.state).nextCopy i

/-- What the segment's transmitter puts on the line for the latest attempt: the frame while the attempt lasts (R37), the jam after a
collision ended it (R38; log entry 45). -/
def Port.lineOut (p : Port) : List Byte :=
  match p.current, p.jam with
  | some ⟨_, _, _, _, .sending frame⟩, _ => frame
  | _, some jam => counterBytes jam
  | _, none => []

/-- The receiver's side of a collision: the stretch is marked as having met its one collision, in SETTLING too, where none is
counted (log entry 25), and the reception is a collision unless its jabber mark came first (R10, R11, R12). -/
def Receiver.collide (r : Receiver) : Receiver :=
  { r with
    collisionSeen := r.lineCarrier
    reception := r.reception.map fun x => if x.jabberCut then x else { x with collided := true } }

/-- Whether a collision detected now is one to count: the first in its stretch, or one the part's own attempt is in (R11; log
entry 25). -/
def Port.collides (p : Port) : Bool := p.isSending || (p.receiver.lineCarrier && !p.receiver.collisionSeen)

/-- COLLISION_DETECTED (R11): counted once in FORWARDING and ISOLATED; an attempt it meets ends (R38). One first met in SETTLING
is not counted and is still the stretch's first, so a later one of that stretch is not counted either; one in TESTING leaves no trace,
so a later one of that stretch, after the test, is counted. Both are the model's choice (DESIGN CHOICE, log entry 25). -/
def State.collision (s : State) (i : SegIx) : State :=
  let p := s.port i
  if p.state.detectsJabber && p.collides then
    let s1 := s.setPort i { p with receiver := p.receiver.collide }
    let s2 := s1.feedWindow i fun w => { w with k := countUp w.k }
    let s3 := s2.feedCounters i fun r => { r with collisions := r.collisions + 1 }
    match p.current with
    | some c => if p.isSending then s3.attemptFailed i c else s3
    | none => s3
  else s

def execCollisionDetected (seg : SegIx) (s : State) : Host.Outcome State Fault Refusal := (s.collision seg).done

end Sys2Proof.Machine
end

