-- ==== Sys2Proof/Machine/UplinkEvents.lean ====
section
/-! DEFINITION. The aging timer (R91) and the events of the Uplink Port (R117 to R122). -/

namespace Sys2Proof.Machine

/-- AGING_TIMER_EXPIRY (R91 to R93). -/
def State.agingExpiry (s : State) : State := if s.table.agingTimer.isRunning then s.ageAll else s

def execAgingTimerExpiry (s : State) : Host.Outcome State Fault Refusal := s.agingExpiry.done

/-- UPLINK_UP (R117); a report of the state already held is ignored. -/
def State.uplinkReportUp (s : State) : State :=
  if s.uplink.up then s
  else (State.notify { s with uplink := { s.uplink with up := true } } (.uplinkState true)).raise .uplinkChange

def execUplinkUp (s : State) : Host.Outcome State Fault Refusal := s.uplinkReportUp.done

/-- The link state goes DOWN after the flush of both queues (R117). -/
def State.linkLost (s : State) : State := { s.flushUplink with uplink := { s.flushUplink.uplink with up := false } }

/-- UPLINK_DOWN (R117). -/
def State.uplinkReportDown (s : State) : State :=
  if s.uplink.up then (s.linkLost.notify (.uplinkState false)).raise .uplinkChange else s

def execUplinkDown (s : State) : Host.Outcome State Fault Refusal := s.uplinkReportDown.done

/-- TUNNEL_FRAME_RECEIVED (R120): tunnel frames are received while the link is UP (R117). -/
def execTunnelFrameReceived (frame : List Byte) (s : State) : Host.Outcome State Fault Refusal :=
  (if s.uplink.up then s.tunnelReceived frame else s).done

/-- The uplink takes an entry as current and builds its tunnel frame (R118, R119). -/
def State.takeUplink (s : State) (service : Bool) (e : QEntry Mac) : State :=
  { s with uplink := { s.uplink with current := some ⟨service, s.tunnelFrame e⟩ } }

/-- UPLINK_TRANSMIT_START (R118): the head of the service queue, or else of the transit queue. -/
def State.uplinkStart (s : State) : State :=
  match s.uplink.current, s.uplink.service, s.uplink.transit with
  | none, e :: _, _ => s.takeUplink true e
  | none, [], e :: _ => s.takeUplink false e
  | _, _, _ => s

def execUplinkTransmitStart (s : State) : Host.Outcome State Fault Refusal := s.uplinkStart.done

/-- UPLINK_SEND_DONE (R118): sent or not sent, the entry completes. -/
def State.uplinkSendDone (s : State) (sent : Bool) : State :=
  match s.uplink.current with
  | some _ =>
    State.completeUplink (s.countUplink fun c =>
      if sent then { c with framesOut := c.framesOut + 1 } else { c with sendFailures := c.sendFailures + 1 })
  | none => s

def execUplinkSendDone (sent : Bool) (s : State) : Host.Outcome State Fault Refusal := (s.uplinkSendDone sent).done

end Sys2Proof.Machine
end

