-- ==== Sys2Proof/Machine/Dispatch.lean ====
section
/-! DEFINITION. One arm per command, each one direct call of its meaning. -/

namespace Sys2Proof.Machine

def exec (i : Instr) (s : State) : Host.Outcome State Fault Refusal :=
  match i with
  | .pinOrPowerReset strap1 strap2 => Sys2Proof.Machine.execPinOrPowerReset strap1 strap2 s
  | .timeBaseTick => Sys2Proof.Machine.execTimeBaseTick s
  | .messageReceived line => Sys2Proof.Machine.execMessageReceived line s
  | .messageSent strap1 strap2 => Sys2Proof.Machine.execMessageSent strap1 strap2 s
  | .getInfo tag => Sys2Proof.Machine.execGetInfo tag s
  | .getStatus tag => Sys2Proof.Machine.execGetStatus tag s
  | .reset tag => Sys2Proof.Machine.execReset tag s
  | .setNotices tag kinds => Sys2Proof.Machine.execSetNotices tag kinds s
  | .setSegmentConfig tag seg body => Sys2Proof.Machine.execSetSegmentConfig tag seg body s
  | .enableSegment tag seg => Sys2Proof.Machine.execEnableSegment tag seg s
  | .disableSegment tag seg => Sys2Proof.Machine.execDisableSegment tag seg s
  | .isolateSegment tag seg => Sys2Proof.Machine.execIsolateSegment tag seg s
  | .rejoinSegment tag seg => Sys2Proof.Machine.execRejoinSegment tag seg s
  | .parkSegment tag seg => Sys2Proof.Machine.execParkSegment tag seg s
  | .setTrim tag seg code => Sys2Proof.Machine.execSetTrim tag seg code s
  | .startLineTest tag seg trim => Sys2Proof.Machine.execStartLineTest tag seg trim s
  | .abortLineTest tag seg => Sys2Proof.Machine.execAbortLineTest tag seg s
  | .getSegment tag seg => Sys2Proof.Machine.execGetSegment tag seg s
  | .getFaults tag seg => Sys2Proof.Machine.execGetFaults tag seg s
  | .clearFaults tag seg => Sys2Proof.Machine.execClearFaults tag seg s
  | .clearHistory tag seg => Sys2Proof.Machine.execClearHistory tag seg s
  | .setSyncWord tag index pattern tolerance enabled => Sys2Proof.Machine.execSetSyncWord tag index pattern tolerance enabled s
  | .getStation tag number => Sys2Proof.Machine.execGetStation tag number s
  | .listStations tag number => Sys2Proof.Machine.execListStations tag number s
  | .pin tag number seg => Sys2Proof.Machine.execPin tag number seg s
  | .unpin tag number => Sys2Proof.Machine.execUnpin tag number s
  | .forget tag number => Sys2Proof.Machine.execForget tag number s
  | .setAging tag unit hold => Sys2Proof.Machine.execSetAging tag unit hold s
  | .setGatewayNumber tag number => Sys2Proof.Machine.execSetGatewayNumber tag number s
  | .setAlias tag index number mac => Sys2Proof.Machine.execSetAlias tag index number mac s
  | .clearAlias tag index => Sys2Proof.Machine.execClearAlias tag index s
  | .setProxyBase tag mac => Sys2Proof.Machine.execSetProxyBase tag mac s
  | .setUplink tag etherType broadcast => Sys2Proof.Machine.execSetUplink tag etherType broadcast s
  | .getPortCounters tag port clear => Sys2Proof.Machine.execGetPortCounters tag port clear s
  | .setPool tag reserve quota => Sys2Proof.Machine.execSetPool tag reserve quota s
  | .getPool tag => Sys2Proof.Machine.execGetPool tag s
  | .setGroup tag group service mode threshold members rebind => Sys2Proof.Machine.execSetGroup tag group service mode threshold members rebind s
  | .clearGroup tag group => Sys2Proof.Machine.execClearGroup tag group s
  | .setPrinter tag printer station rate blockTimeout endTimeout stopAfter => Sys2Proof.Machine.execSetPrinter tag printer station rate blockTimeout endTimeout stopAfter s
  | .clearPrinter tag printer => Sys2Proof.Machine.execClearPrinter tag printer s
  | .holdPrinter tag printer => Sys2Proof.Machine.execHoldPrinter tag printer s
  | .releasePrinter tag printer => Sys2Proof.Machine.execReleasePrinter tag printer s
  | .getPrinter tag printer => Sys2Proof.Machine.execGetPrinter tag printer s
  | .getJob tag job => Sys2Proof.Machine.execGetJob tag job s
  | .cancelJob tag job => Sys2Proof.Machine.execCancelJob tag job s
  | .listJobs tag start => Sys2Proof.Machine.execListJobs tag start s
  | .setJobIdle tag time => Sys2Proof.Machine.execSetJobIdle tag time s
  | .activityStart seg => Sys2Proof.Machine.execActivityStart seg s
  | .syncWordComplete seg word => Sys2Proof.Machine.execSyncWordComplete seg word s
  | .activityEnd seg bytes => Sys2Proof.Machine.execActivityEnd seg bytes s
  | .collisionDetected seg => Sys2Proof.Machine.execCollisionDetected seg s
  | .jabberMark seg => Sys2Proof.Machine.execJabberMark seg s
  | .transmitAttempt seg => Sys2Proof.Machine.execTransmitAttempt seg s
  | .backoffExpiry seg => Sys2Proof.Machine.execBackoffExpiry seg s
  | .copySent seg => Sys2Proof.Machine.execCopySent seg s
  | .settleTimerExpiry seg => Sys2Proof.Machine.execSettleTimerExpiry seg s
  | .isolationOrder seg => Sys2Proof.Machine.execIsolationOrder seg s
  | .rejoinOrder seg => Sys2Proof.Machine.execRejoinOrder seg s
  | .isolationOrderResult seg => Sys2Proof.Machine.execIsolationOrderResult seg s
  | .supervisorStateEntry seg => Sys2Proof.Machine.execSupervisorStateEntry seg s
  | .testerSegmentLeftIsolated seg => Sys2Proof.Machine.execTesterSegmentLeftIsolated seg s
  | .windowExpiry seg => Sys2Proof.Machine.execWindowExpiry seg s
  | .flapTimerExpiry seg => Sys2Proof.Machine.execFlapTimerExpiry seg s
  | .autoTestRequest seg => Sys2Proof.Machine.execAutoTestRequest seg s
  | .quietCheckPassed => Sys2Proof.Machine.execQuietCheckPassed s
  | .quietCheckFailed => Sys2Proof.Machine.execQuietCheckFailed s
  | .quietWaitExpiry => Sys2Proof.Machine.execQuietWaitExpiry s
  | .probeDisturbed => Sys2Proof.Machine.execProbeDisturbed s
  | .rangingComplete echo => Sys2Proof.Machine.execRangingComplete echo s
  | .trimProbeComplete ohmNum ohmDen => Sys2Proof.Machine.execTrimProbeComplete ohmNum ohmDen s
  | .agingTimerExpiry => Sys2Proof.Machine.execAgingTimerExpiry s
  | .uplinkUp => Sys2Proof.Machine.execUplinkUp s
  | .uplinkDown => Sys2Proof.Machine.execUplinkDown s
  | .tunnelFrameReceived frame => Sys2Proof.Machine.execTunnelFrameReceived frame s
  | .uplinkTransmitStart => Sys2Proof.Machine.execUplinkTransmitStart s
  | .uplinkSendDone sent => Sys2Proof.Machine.execUplinkSendDone sent s
  | .idleTimerExpiry job => Sys2Proof.Machine.execIdleTimerExpiry job s
  | .jobChangeTaken => Sys2Proof.Machine.execJobChangeTaken s
  | .printerEvaluation => Sys2Proof.Machine.execPrinterEvaluation s
  | .blockTimerExpiry printer => Sys2Proof.Machine.execBlockTimerExpiry printer s
  | .retryTimerExpiry printer => Sys2Proof.Machine.execRetryTimerExpiry printer s
  | .endTimerExpiry printer => Sys2Proof.Machine.execEndTimerExpiry printer s
  | .resetPinHeld => Sys2Proof.Machine.execResetPinHeld s

end Sys2Proof.Machine
end

