-- ==== Sys2Proof/Safety.lean ====
section
/-! DEFINITION. What counts as a safe run: a machine that never stops, and the well-formedness of each block's state that every
step keeps. Each predicate is the manual's own statement about the whole machine, under the rule its docstring names. -/

namespace Sys2Proof.Machine

/-! ## Outcomes -/

/-- The machine goes on. -/
def goesOn (o : Host.Outcome State Fault Refusal) : Prop := ∃ t, o = .next t

/-- The host can send a request and have it taken: the reset pin is not held and no request is outstanding (R170, R171, R178). -/
def State.takesRequests (s : State) : Bool := !s.mgmt.pinHeld && s.mgmt.reply.isNone

/-- A request command is taken under line 6 of R170: its tag is not 0, and the host's request finds none outstanding. -/
abbrev State.takes (s : State) (tag : Byte) : Prop := s.takesRequests = true ∧ tag ≠ 0

/-! ## The management side of a command -/

/-- The port's registers after a notice is passed to it (R176). -/
def Mgmt.noted (m : Mgmt) (n : Notice) : Mgmt :=
  if m.enabled.getLsbD n.index then
    if m.notices.length < noticeCapacity then { m with notices := m.notices ++ [n] } else { m with lost := true }
  else m

/-- The port's registers after it has filed a reply to the request just received, and has begun what it sends next (R171,
R172). -/
def Mgmt.answered (m : Mgmt) (r : Msg) : Mgmt :=
  Mgmt.takeNext { m with rx := emptyBuffer, reply := some r, refusalOlder := m.refusal.isSome }

/-! ## What carrying and printing leave alone -/

/-- What printing may do to a service queue, `before` to `after`: print-block entries with a page leave it, every other entry
stays in its place, and what joins it at the end are PRINT_BLOCK and JOB_ABORT frames from the gateway number (R140, R156, R159). -/
def queueServed {δ : Type} (gateway : Byte) (before after : List (QEntry δ)) : Prop :=
  ∃ kept new, after = kept ++ new ∧ kept.Sublist before ∧
    (∀ e ∈ before, (∀ page offset count, e.source ≠ .span page offset count) → e ∈ kept) ∧
    ∀ e ∈ new, e.header.src = gateway ∧ (e.header.typ = typePrintBlock ∨ e.header.typ = typeJobAbort)

/-- From `s` to `t` nothing has changed but the printing frames of service queues, current entries of service queues, their
counters of flushed and refused entries, pages, jobs, printers, free values drawn, events on their way and the Management Port: no
segment's state, relay, codes, settings, receiver or transit queue, no supervision, test, station, sync entry or clock. -/
def State.linesKept (s t : State) : Prop :=
  t = { s with
    raised := t.raised
    draws := t.draws
    ports := t.ports
    uplink := t.uplink
    pool := t.pool
    intake := t.intake
    delivery := t.delivery
    mgmt := t.mgmt } ∧
  (∀ i, t.port i = { s.port i with
      service := (t.port i).service
      current := (t.port i).current
      tx := { (s.port i).tx with flushed := (t.port i).tx.flushed, serviceFull := (t.port i).tx.serviceFull } } ∧
    queueServed s.table.gateway (s.port i).service (t.port i).service ∧
    ∀ c, (s.port i).current = some c → c.service = false → (t.port i).current = some c) ∧
  t.uplink = { s.uplink with
    service := t.uplink.service
    current := t.uplink.current
    counters := { s.uplink.counters with
      flushed := t.uplink.counters.flushed
      serviceFull := t.uplink.counters.serviceFull } } ∧
  queueServed s.table.gateway s.uplink.service t.uplink.service ∧
  ∀ c, s.uplink.current = some c → c.service = false → t.uplink.current = some c

/-- From `s` to `t` the frame records have lost one reference for each of the payload sources that names them, and a record that
had no more has been discarded; nothing else of the pool has changed (R126). -/
def State.refsDropped (s t : State) (sources : List PayloadSource) : Prop :=
  t.pool = { s.pool with frames := t.pool.frames } ∧
  ∀ f, tableGet t.pool.frames f = (tableGet s.pool.frames f).bind fun r =>
    if sources.count (.stored f) = 0 then some r
    else if r.refs ≤ sources.count (.stored f) then none
    else some { r with refs := r.refs - sources.count (.stored f) }

/-- Every byte of the pool memory outside the addresses given reads as before (R124). -/
def State.bytesKeptBut (s t : State) (written : Nat → Prop) : Prop :=
  ∀ a, ¬ written a → memRead t.pool.mem a = memRead s.pool.mem a

/-! ## Numbers claimed (R85) -/

/-- A number is the gateway number, a group's service number or an alias (R85). -/
abbrev State.claimed (s : State) (n : Byte) : Prop :=
  n = s.table.gateway ∨ (∃ g ∈ s.delivery.groups, g.2.service = n) ∨ ∃ a ∈ s.table.aliases, a.2.number = n

/-- A number nothing claims and no station is known of (R85). -/
abbrev State.unclaimed (s : State) (n : Byte) : Prop := ¬ s.claimed n ∧ (s.table.entry n).known = .empty

/-- A printer entry names a number (R149). -/
abbrev State.named (s : State) (n : Byte) : Prop := ∃ p ∈ s.delivery.printers, p.2.station = n

/-! ## Owned pages -/

/-- Every owned page (R123). -/
def State.ownedPages (s : State) : List Nat := s.framePageList ++ s.jobPageList

/-! ## Tests that follow one another (R69, R70) -/

/-- An automatic test begins on the ISOLATED segment `k` (R69): TESTING with the line code at 48, the reception cut off and jabber
reported stopped (R12, R15), the context filled, the pending flag cleared, the change passed on (R23). -/
def State.testBegun (s : State) (k : SegIx) : State :=
  { s with
    ports := s.ports.set k { s.port k with
      state := .testing
      relay := .transceiver
      lineCode := 48
      settleTimer := .stopped
      receiver := { (s.port k).receiver with marked := false, carrierTimer := .stopped, reception := none } }
    sups := s.sups.set k { s.sup k with live := { (s.sup k).live with
      jabber := (s.sup k).live.jabber && !(s.port k).receiver.marked } }
    tester := { s.tester with
      context := some
        { segment := k, cause := .automatic, stage := .quietCheck, attempts := 1, trimRequested := false, accepted := 0, bit := 5,
          prior := (s.port k).trim, parkedBefore := false, rangingDone := false, wait := .stopped, raiseAfterWait := false }
      pendingFlags := s.tester.pendingFlags.set k false }
    raised := s.raised ++ [.stateEntry k .isolated .testing (s.port k).reason, .leftIsolated k, .segmentChange k]
    mgmt := s.mgmt.noted (.segmentState k .isolated .testing none .transceiver 48 .tester) }

/-- The tester becomes free, and begins at once an automatic test on the lowest-numbered ISOLATED segment whose pending flag is set
(R70). -/
def State.testerFreed (s : State) : State :=
  match segments.find? fun k => s.tester.pendingFlags.get k && (s.port k).state = .isolated with
  | some k => { s with tester := { s.tester with context := none } }.testBegun k
  | none => { s with tester := { s.tester with context := none } }

/-- A test's TEST_RESULT when no trim search completed: the captures go with it once ranging is done (R82). -/
def State.reportOf (s : State) (c : TestContext) (outcome : TestOutcome) : Notice :=
  .testResult
    { segment := c.segment, cause := c.cause, outcome := outcome, attempts := c.attempts, trimRequested := c.trimRequested
      ranging := if c.rangingDone then (s.tester.captures.get c.segment).current else none
      previous := if c.rangingDone then (s.tester.captures.get c.segment).previous else none
      trim := none }

/-- The port of a segment whose test ends, back in PARKED or ISOLATED, with the line code, reason and receiver as that state has
them (R12, R15, R19, R32). -/
def Port.backFrom (p : Port) (parks : Bool) : Port :=
  if parks then { p with
    state := .parked
    relay := .park
    settleTimer := .stopped
    lineCode := match p.policy with
      | .retain => p.trim
      | .nominal => 48
      | .noLoad => 0
    reason := none
    receiver := { p.receiver with marked := false, carrierTimer := .stopped, reception := none } }
  else { p with
    state := .isolated
    relay := .transceiver
    settleTimer := .stopped
    lineCode := p.trim
    receiver := { p.receiver with
      marked := false
      carrierTimer := if p.receiver.lineCarrier then .running 4 else .stopped
      reception := none } }

/-- A test on segment `i` ends: its TEST_RESULT, the segment's change to PARKED or ISOLATED with SEGMENT_STATE, passed on, and then
the tester is free (R23, R32, R70, R78, R79). -/
def State.testEnded (s : State) (i : SegIx) (parks : Bool) (report : Notice) : State :=
  State.testerFreed { s with
    ports := s.ports.set i ((s.port i).backFrom parks)
    raised := s.raised ++ [.stateEntry i .testing ((s.port i).backFrom parks).state ((s.port i).backFrom parks).reason, .segmentChange i]
    mgmt := (s.mgmt.noted report).noted (.segmentState i .testing ((s.port i).backFrom parks).state
      ((s.port i).backFrom parks).reason ((s.port i).backFrom parks).relay ((s.port i).backFrom parks).lineCode .tester) }

/-! ## Frames on their way -/

/-- An entry's payload source and header, and its place: last in a port's service or transit queue; an idle segment transmitter
takes its next entry at once (R34, R36). -/
def Port.queued (syncs : Three SyncEntry) (service : Bool) (e : QEntry SyncSet) (p : Port) : Port :=
  Port.takeEntry syncs
    (if service then { p with service := p.service ++ [e] } else { p with transit := p.transit ++ [e] })

/-- The same on the uplink (R118). -/
def Uplink.queued (service : Bool) (e : QEntry Mac) (u : Uplink) : Uplink :=
  if service then { u with service := u.service ++ [e] } else { u with transit := u.transit ++ [e] }

/-- The state with an entry put last in the queue of a route. -/
def State.queued (s : State) (service : Bool) (source : PayloadSource) (h : Header) : Route → State
  | .segment i set => { s with ports := s.ports.set i ((s.port i).queued s.syncs service ⟨source, h, set⟩) }
  | .uplink mac => { s with uplink := s.uplink.queued service ⟨source, h, mac⟩ }

/-- A copy refused as full is counted on the port whose transit queue was full (R114). -/
def State.tailDropped (s : State) (r : Route) : State :=
  match r with
  | .segment i _ => { s with ports := s.ports.set i { s.port i with
      fwd := { (s.port i).fwd with tailDrop := (s.port i).fwd.tailDrop + 1 } } }
  | .uplink _ => { s with uplink := { s.uplink with fwd := { s.uplink.fwd with tailDrop := s.uplink.fwd.tailDrop + 1 } } }

/-- An answer refused as full is counted on the port whose service queue was full (R34, R118). -/
def State.serviceRefused (s : State) (r : Route) : State :=
  match r with
  | .segment i _ => { s with ports := s.ports.set i { s.port i with
      tx := { (s.port i).tx with serviceFull := (s.port i).tx.serviceFull + 1 } } }
  | .uplink _ => { s with uplink := { s.uplink with
      counters := { s.uplink.counters with serviceFull := s.uplink.counters.serviceFull + 1 } } }

/-- A port takes an entry offered to it: its segment is FORWARDING, or the link UP, and the queue has room (R34, R118). -/
def State.hasRoom (s : State) (service : Bool) : Route → Prop
  | .segment i _ => (s.port i).state = .forwarding ∧ if service then (s.port i).service.length < 8 else (s.port i).transit.length < 32
  | .uplink _ => s.uplink.up = true ∧ if service then s.uplink.service.length < 8 else s.uplink.transit.length < 32

/-- What the end of a good frame with `m` mismatches in its sync word leaves on the FORWARDING segment `i`, before its source is
looked at (R8, R10, R12, R13). -/
def State.goodCounted (s : State) (i : SegIx) (m : Nat) : State :=
  { s with
    ports := s.ports.set i { s.port i with
      receiver :=
        { lineCarrier := false, collisionSeen := false, marked := false, carrierTimer := .stopped, reception := none }
      rx := { (s.port i).rx with
        framesIn := (s.port i).rx.framesIn + 1
        marginal := if m = 0 then (s.port i).rx.marginal else (s.port i).rx.marginal + 1 } }
    sups := s.sups.set i { s.sup i with
      counts := { (s.sup i).counts with
        g := countUp (s.sup i).counts.g
        m := if m = 0 then (s.sup i).counts.m else countUp (s.sup i).counts.m }
      live := { (s.sup i).live with jabber := (s.sup i).live.jabber && !(s.port i).receiver.marked } } }

/-- The state with another entry of station number `n`, a notice passed and, when `change` says so, the number's station change on
its way (R84, R104). -/
def State.stationSet (s : State) (n : Byte) (e : Station) (note : Option Notice) (change : Bool) : State :=
  { s with
    table := { s.table with entries := tablePut s.table.entries n.toNat e }
    raised := s.raised ++ if change then [.stationChange n] else []
    mgmt := match note with
      | some k => s.mgmt.noted k
      | none => s.mgmt }

/-- A frame from the unclaimed or station number `n` on segment `i` with sync index `x` is learned, and leaves `t` (R86, R88 to
R90): a number not known becomes ACTIVE there, held when a printer entry names it; one known there is refreshed; one known
elsewhere and not pinned moves when it is QUIET or has been silent for the move hold, and otherwise becomes DUPLICATE; of a
DUPLICATE the side there is refreshed, or else the side silent for longer, the second on a tie, is replaced. -/
def State.learned (s : State) (n : Byte) (i : SegIx) (x : SyncIx) (t : State) : Prop :=
  let e := s.table.entry n
  let new : Side := ⟨i, 0, x⟩
  n ≠ 0 ∧ n ≠ 255 ∧ ¬ s.claimed n ∧
    ((e.known = .empty ∧ ∃ held, (held = true ↔ s.named n) ∧
        t = s.stationSet n { e with known := .active new, held := held } (some (.stationArrived n i x)) true) ∨
      (∃ a, a.segment = i ∧ e.known = .active a ∧ t = s.stationSet n { e with known := .active new } none false) ∨
      (∃ a, a.segment = i ∧ e.known = .quiet a ∧ t = s.stationSet n { e with known := .active new } none true) ∨
      (∃ a, a.segment ≠ i ∧ e.pinned = false ∧
        (e.known = .quiet a ∨ (e.known = .active a ∧ s.table.moveHold ≤ a.silence)) ∧
        t = s.stationSet n { e with known := .active new } (some (.stationMoved n a.segment i false)) true) ∨
      (∃ a, a.segment ≠ i ∧ e.pinned = false ∧ e.known = .active a ∧ a.silence < s.table.moveHold ∧
        t = s.stationSet n { e with known := .duplicate a new } (some (.stationConflict n a.segment i false)) true) ∨
      (∃ a b, e.known = .duplicate a b ∧ a.segment = i ∧ t = s.stationSet n { e with known := .duplicate new b } none false) ∨
      (∃ a b, e.known = .duplicate a b ∧ a.segment ≠ i ∧ b.segment = i ∧
        t = s.stationSet n { e with known := .duplicate a new } none false) ∨
      (∃ a b, e.known = .duplicate a b ∧ a.segment ≠ i ∧ b.segment ≠ i ∧ b.silence < a.silence ∧
        t = s.stationSet n { e with known := .duplicate new b } (some (.stationConflict n i b.segment true)) true) ∨
      ∃ a b, e.known = .duplicate a b ∧ a.segment ≠ i ∧ b.segment ≠ i ∧ a.silence ≤ b.silence ∧
        t = s.stationSet n { e with known := .duplicate a new } (some (.stationConflict n a.segment i true)) true)

/-- A good frame with header `h` and payload `p` ends on the FORWARDING segment `i`, accepted with sync index `x`, and its source is
learned, so that it goes on to the Forwarding Engine; `base` is what its reception and the learning of its source leave (R10, R12,
R13, R14, R86). -/
def State.hears (s : State) (c : Instr) (i : SegIx) (x : SyncIx) (h : Header) (p : List Byte) (base : State) : Prop :=
  ∃ (r : Reception) (m : Nat), c = .activityEnd i (trunkBytes h p) ∧ h.len.toNat = p.length ∧ p.length ≤ 512 ∧
    (s.port i).state = .forwarding ∧ (s.port i).receiver.lineCarrier = true ∧ (s.port i).receiver.reception = some r ∧
    r.jabberCut = false ∧ r.collided = false ∧ r.sync = .accepted x m ∧ (s.goodCounted i m).learned h.src i x base

/-- A good tunnel frame from the MAC of an alias is received on the uplink, whose link is UP, with header `h`, the source number
made the alias's, and payload `p`; `base` is what its reception leaves (R119 to R122). -/
def State.tunnels (s : State) (c : Instr) (mac : Mac) (h : Header) (p : List Byte) (base : State) : Prop :=
  ∃ (m : Mac) (inner : Byte) (a : Nat × AliasEntry) (pad bare : List Byte),
    bare = macBytes m ++ macBytes mac ++ nat2 s.uplink.etherType.toNat ++ [0x01] ++ { h with src := inner }.bytes ++ p ++ pad ∧
    (pad = [] ∨ bare.length ≤ 60) ∧
    c = .tunnelFrameReceived (bare ++ fcsBytes bare) ∧ h.len.toNat = p.length ∧ p.length ≤ 512 ∧ s.uplink.up = true ∧
    (m = 0xFFFFFFFFFFFF ∨ m.extractLsb' 8 40 = s.table.proxyBase.extractLsb' 8 40) ∧ s.aliasOfMac mac = some a ∧
    h.src = a.2.number ∧
    base = { s with uplink := { s.uplink with
      counters := { s.uplink.counters with framesIn := s.uplink.counters.framesIn + 1 } } }

/-- A good frame comes to the Forwarding Engine by command `c` from origin `o`, its answers going back by `back` (R106, R113). -/
def State.arrives (s : State) (c : Instr) (o : Origin) (back : Route) (h : Header) (p : List Byte) (base : State) : Prop :=
  (∃ i x, o = .segment i ∧ back = .segment i (BitVec.twoPow 3 x.val) ∧ s.hears c i x h p base) ∨
  ∃ mac, o = .uplink ∧ back = .uplink mac ∧ s.tunnels c mac h p base

/-- The state after a frame of the part's own to station number `n` is offered to the service queue of the port that reaches it: put
last in the queue, or counted as refused where it has no room (R34, R118, R140, R156). -/
def State.offeredTo (s : State) (n : Byte) (source : PayloadSource) (h : Header) (u : State) : Prop :=
  ∃ r, s.routeTo n = some r ∧
    ((s.hasRoom true r ∧ u = s.queued true source h r) ∨ (¬ s.hasRoom true r ∧ u = s.serviceRefused r))

/-- The same for a block in flight to printer station `n`, under the gateway number in force, its bytes those of its page from offset
0 (R156, R158). -/
def State.blockOffered (s : State) (n : Byte) (f : Flight) (u : State) : Prop :=
  s.offeredTo n
    (match f.page with
      | some page => .span page 0 f.count
      | none => .nothing)
    ⟨n, s.table.gateway, 0x10, printControl f.first f.last f.urgent f.seq, BitVec.ofNat 16 f.count⟩ u

/-- A PRINTING head has a block to send: an OPEN one when its head page is full, a CLOSED one always (R156). -/
def Job.hasBlock (j : Job) : Bool :=
  !j.isOpen || decide (2 ≤ j.chain.length) || (decide (j.chain.length = 1) && decide (256 ≤ j.received - j.delivered))

/-- The block a PRINTING head sends next, under printer-side sequence `seq` (R156). -/
def Job.block (j : Job) (seq : BlockSeq) : Flight :=
  { job := j.number, seq := seq, first := decide (j.delivered = 0), last := !j.isOpen && decide (j.chain.length ≤ 1),
    urgent := decide (j.delivered = 0) && j.urgent,
    count := if j.chain = [] then 0 else min 256 (j.received - j.delivered),
    page := j.chain.head?, outstanding := true }

/-- From `base` to `t` a frame has been stored byte for byte over the fewest pages, all of them free, and stands last in the queue
of each route, at most one to a port, one reference for each (R114, R123 to R126). Which free pages are taken is the model's choice
(log entry 9). -/
def State.storedFor (base t : State) (service : Bool) (h : Header) (p : List Byte) (routes : List Route) : Prop :=
  ∃ pages, pages = base.choosePages ((6 + p.length + 255) / 256) ∧ pages.length = (6 + p.length + 255) / 256 ∧ pages.Nodup ∧
    (∀ z ∈ pages, z < 1024 ∧ z ∉ base.ownedPages) ∧
    t = { base with
      ports := t.ports
      uplink := t.uplink
      pool := { base.pool with mem := t.pool.mem, frames := t.pool.frames, lowestFree := min base.pool.lowestFree t.freePages }
      mgmt := base.mgmt.takeNext } ∧
    t.freePages = base.freePages - pages.length ∧
    (∀ f, tableGet t.pool.frames f =
      if f = pages.headD 0 then some ⟨pages, routes.length⟩ else tableGet base.pool.frames f) ∧
    streamRead t.pool.mem pages 0 (6 + p.length) = [h.dst, h.src, h.typ, h.ctl] ++ nat2 h.len.toNat ++ p ∧
    base.bytesKeptBut t (fun y => ∃ n, n < 6 + p.length ∧ y = 256 * pages.getD (n / 256) 0 + n % 256) ∧
    (∀ k set, Route.segment k set ∈ routes → t.port k = (base.port k).queued base.syncs service ⟨.stored (pages.headD 0), h, set⟩) ∧
    (∀ k, (∀ set, Route.segment k set ∉ routes) → t.port k = base.port k) ∧
    (∀ mac, Route.uplink mac ∈ routes → t.uplink = base.uplink.queued service ⟨.stored (pages.headD 0), h, mac⟩) ∧
    ((∀ mac, Route.uplink mac ∉ routes) → t.uplink = base.uplink)

/-- From `base` to `t` a frame has been written into free pages and freed again at once, no queue having taken it: no frame is
stored for it, and no byte of an owned page has changed (R113, R114, R125). -/
def State.storedAndFreed (base t : State) (p : List Byte) : Prop :=
  t = { base with
    pool := { base.pool with
      mem := t.pool.mem
      frames := t.pool.frames
      lowestFree := min base.pool.lowestFree (base.freePages - (6 + p.length + 255) / 256) }
    mgmt := base.mgmt.takeNext } ∧
  (∀ f, tableGet t.pool.frames f = tableGet base.pool.frames f) ∧
  base.bytesKeptBut t (fun y => y / 256 ∉ base.ownedPages)

/-! ## Segment ports and the Line Tester -/

/-- The line code each state calls for; TESTING's is the tester's (R19, R21). -/
def Port.lineCodeWf (p : Port) : Bool :=
  match p.state with
  | .testing => true
  | .disabled => p.lineCode = p.policy.code p.trim
  | .parked => p.lineCode = p.policy.code p.trim
  | _ => p.lineCode = p.trim

/-- Outside FORWARDING both queues are empty and the current entry is none (R35); queues keep to their sizes (R18). -/
def Port.queuesWf (p : Port) : Bool :=
  (p.state = .forwarding || (p.service.isEmpty && p.transit.isEmpty && p.current.isNone)) &&
    decide (p.service.length ≤ serviceCapacity) && decide (p.transit.length ≤ transitCapacity)

/-- In a state that does not detect jabber the receiver follows no reception and times nothing (R1, R12, R15). -/
def Port.receiverWf (p : Port) : Bool :=
  p.state.detectsJabber || (p.receiver.reception.isNone && !p.receiver.carrierTimer.isRunning && !p.receiver.marked)

/-- A port's relay, settle timer, isolation reason, line code, queues and receiver agree with its state (R18, R19, R25, R35). -/
def Port.wf (p : Port) : Bool :=
  p.relay = p.state.relay && p.settleTimer.isRunning = (p.state = .settling) &&
    (p.state = .isolated || p.state = .testing || p.reason.isNone) && p.lineCodeWf && p.queuesWf && p.receiverWf

/-- A segment is in TESTING exactly while the tester holds a context for it (R65). -/
def State.testerWf (s : State) : Bool :=
  segments.all fun i => ((s.port i).state = .testing) = (s.tester.context.map TestContext.segment = some i)

/-- Ports and tester together. -/
def State.portsWf (s : State) : Bool := (segments.all fun i => (s.port i).wf) && s.testerWf

/-! ## Supervision -/

/-- The ranges of the supervision settings (R42). -/
def SupSettings.wf (c : SupSettings) : Bool :=
  decide (1 ≤ c.window) && decide (c.window ≤ 255) && decide (c.shift ≤ 4) && decide (c.high ≤ 1023) && decide (c.low < c.high) &&
    decide (1 ≤ c.strikes) && decide (c.strikes ≤ 8) && decide (1 ≤ c.rejoinWindows) && decide (c.rejoinWindows ≤ 32) &&
    decide (c.maskWindows ≤ 8) && decide (1 ≤ c.flapLimit) && decide (c.flapLimit ≤ 7) && decide (500 ≤ c.vf) &&
    decide (c.vf ≤ 990)

/-- The ranges of a supervision context; the flap timer runs exactly while the flap count is above 0 (R41, R58, R60). -/
def Supervision.wf (c : Supervision) : Bool :=
  decide (c.health ≤ 1023) && decide (c.strikes ≤ 8) && decide (c.rejoins ≤ 32) && decide (c.mask ≤ 8) && decide (c.flaps ≤ 7) &&
    (c.flapTimer.isRunning = decide (0 < c.flaps)) && decide (c.history.length ≤ historyCapacity) &&
    (match c.lastE with
      | some e => decide (e ≤ 1023)
      | none => true) && c.settings.wf

/-- Every supervision context is in its ranges. -/
def State.supsWf (s : State) : Bool := segments.all fun i => (s.sup i).wf

/-! ## Station Table -/

/-- Numbers strictly rising. -/
def risingKeys {β : Type} : List (Nat × β) → Bool
  | [] => true
  | [_] => true
  | a :: b :: rest => decide (a.1 < b.1) && risingKeys (b :: rest)

/-- The sides of an entry: silence counts to 10, and two different segments in DUPLICATE (R84). -/
def Known.wf : Known → Bool
  | .empty => true
  | .active a => decide (a.silence ≤ 10)
  | .quiet a => decide (a.silence ≤ 10)
  | .duplicate a b => decide (a.silence ≤ 10) && decide (b.silence ≤ 10) && decide (a.segment ≠ b.segment)

/-- Pinned only in ACTIVE or QUIET, held only when not EMPTY (R84). -/
def Station.wf (e : Station) : Bool :=
  e.known.wf &&
    match e.known with
    | .empty => !e.pinned && !e.held
    | .duplicate _ _ => !e.pinned
    | _ => true

/-- The station entries: numbers 1 to 254 in rising order, each entry in the form of R84, none equal to the unlisted one; the alias
entries in use: indexes 0 to 31 in rising order (R98). -/
def StationTable.wf (t : StationTable) : Bool :=
  risingKeys t.entries &&
    (t.entries.all fun e => decide (1 ≤ e.1) && decide (e.1 ≤ 254) && e.2.wf && decide (e.2 ≠ emptyStation)) &&
    risingKeys t.aliases && t.aliases.all fun a => decide (a.1 < 32)

/-! ## Printer Delivery -/

/-- The printer entries 0 to 15 and the group entries 0 to 7 in use, in rising order; every member of a group is a printer in use
(R149, R152, R165). -/
def Delivery.wf (d : Delivery) : Bool :=
  risingKeys d.printers && (d.printers.all fun p => decide (p.1 < 16)) && risingKeys d.groups &&
    (d.groups.all fun g => decide (g.1 < 8)) && d.groups.all fun g => g.2.members.all fun m => (tableGet d.printers m).isSome

/-! ## Claims on numbers -/

/-- The numbers of the groups. -/
def State.serviceNumbers (s : State) : List Byte := s.delivery.groups.map fun g => g.2.service

/-- The numbers of the aliases. -/
def State.aliasNumbers (s : State) : List Byte := s.table.aliases.map fun a => a.2.number

/-- The numbers of the non-EMPTY stations. -/
def State.knownNumbers (s : State) : List Byte :=
  (s.table.entries.filter fun e => e.2.isKnown).map fun e => BitVec.ofNat 8 e.1

/-- Each number is at most one of: the gateway number, a service number, an alias, a non-EMPTY station (R85). -/
def State.claimsWf (s : State) : Bool :=
  decide (s.table.gateway :: (s.serviceNumbers ++ s.aliasNumbers ++ s.knownNumbers)).Nodup

/-! ## Uplink -/

/-- While the link is DOWN both queues are empty; queues keep to their sizes (R116, R117). -/
def Uplink.wf (u : Uplink) : Bool :=
  (u.up || (u.service.isEmpty && u.transit.isEmpty && u.current.isNone)) && decide (u.service.length ≤ serviceCapacity) &&
    decide (u.transit.length ≤ transitCapacity)

/-! ## Page Pool -/

/-- No page has two owners, every owned page is one of the 1024, a stored frame is named by its first page, and no two jobs share a
number (R123, R133). -/
def State.pagesWf (s : State) : Bool :=
  decide s.ownedPages.Nodup && (s.ownedPages.all fun p => decide (p < poolPages)) &&
    (s.pool.frames.all fun e => e.2.pages.head? = some e.1) && decide (s.intake.jobs.map Job.number).Nodup

/-! ## References -/

/-- The stored frames that queue entries point at. -/
def queueFrames {δ : Type} (es : List (QEntry δ)) : List Nat :=
  es.filterMap fun e => match e.source with
    | .stored f => some f
    | _ => none

/-- The stored frames that the entries of all queues point at, one for each entry (R126). -/
def State.queuedFrames (s : State) : List Nat :=
  (segments.flatMap fun i => queueFrames ((s.port i).service ++ (s.port i).transit)) ++
    queueFrames (s.uplink.service ++ s.uplink.transit)

/-- The reference count of every stored frame is the number of queue entries that point at it, none is kept without one, and no
entry points at a frame that is not stored (R126). -/
def State.refsWf (s : State) : Bool :=
  (s.pool.frames.all fun e => decide (e.2.refs = s.queuedFrames.count e.1) && decide (0 < e.2.refs)) &&
    s.queuedFrames.all fun f => (tableGet s.pool.frames f).isSome

/-! ## Jobs -/

/-- No two jobs share a number, and a WAITING job is bound to no printer (R133, R153). -/
def State.jobsWf (s : State) : Bool :=
  decide (s.intake.jobs.map Job.number).Nodup && s.intake.jobs.all fun j => j.delivery ≠ .waiting || j.printer.isNone

/-! ## Management Port -/

/-- The queue keeps to 32 notices, STARTED stays enabled, and what is being sent stands in its slot (R171, R172, R176, R177). -/
def Mgmt.wf (m : Mgmt) : Bool :=
  decide (m.notices.length ≤ noticeCapacity) && m.enabled.getLsbD 0 && decide (m.rx.content.length ≤ 305) &&
    (match m.sending with
      | some .reply => m.reply.isSome
      | some .refusal => m.refusal.isSome
      | _ => true) && (!m.resetTaken || m.reply.isSome)

/-! ## A printer is evaluated -/

/-- A port whose service queue holds print blocks of the pages loses them, the current one cut off and its place taken at once, each
counted as flushed (R36, R159). -/
def Port.withoutPages (syncs : Three SyncEntry) (pages : List Nat) (p : Port) : Port :=
  let ofPages (x : QEntry SyncSet) : Bool := pages.any fun page => x.isPage page
  if p.service.any ofPages then
    Port.takeEntry syncs { p with
      service := p.service.filter fun x => !ofPages x
      current := if (p.current.any fun c => c.service) && p.service.head?.any ofPages then none else p.current
      tx := { p.tx with flushed := p.tx.flushed + BitVec.ofNat 32 (p.service.countP ofPages) } }
  else p

/-- The same on the uplink (R118, R159). -/
def Uplink.withoutPages (pages : List Nat) (u : Uplink) : Uplink :=
  let ofPages (x : QEntry Mac) : Bool := pages.any fun page => x.isPage page
  { u with
    service := u.service.filter fun x => !ofPages x
    current := if (u.current.any fun c => c.service) && u.service.head?.any ofPages then none else u.current
    counters := { u.counters with flushed := u.counters.flushed + BitVec.ofNat 32 (u.service.countP ofPages) } }

/-- Every print block of the pages has left its service queue (R159). -/
def State.withdrawn (s : State) (pages : List Nat) : State :=
  { s with
    ports := s.ports.map (Port.withoutPages s.syncs pages)
    uplink := s.uplink.withoutPages pages }

/-- No print block of a page is on a service queue. -/
def State.pageUnsent (s : State) (page : Nat) : Prop :=
  (∀ i, ∀ x ∈ (s.port i).service, x.isPage page = false) ∧ ∀ x ∈ s.uplink.service, x.isPage page = false

/-- The jobs, a printer entry and the Management Port replaced. -/
def State.printingSet (s : State) (p : Nat) (e : Printer) (jobs : List Job) (m : Mgmt) : State :=
  { s with
    intake := { s.intake with jobs := jobs }
    delivery := { s.delivery with printers := tablePut s.delivery.printers p e }
    mgmt := m }

/-- An entry once an evaluation has found its printer in a state, for a reason when that is UNREACHABLE (R151). -/
def Printer.seen (e : Printer) (st : PrinterState) (why : Option UnreachReason) : Printer :=
  { e with found := st, foundReason := why, foundPause := e.pause }

/-- The PRINTER_STATE of such a finding, passed when the state, the reason or the pause reasons are new (R151). -/
def Mgmt.told (m : Mgmt) (p : Nat) (e : Printer) (st : PrinterState) (why : Option UnreachReason) : Mgmt :=
  if st = e.found ∧ why = e.foundReason ∧ e.pause = e.foundPause then m
  else m.noted (.printerState p e.station e.found st why e.pause)

/-- An entry after jobs have left its queue: with the head the block in flight, the resends and the timers go (R160, R164; log entry
19). -/
def Printer.left (e : Printer) (gone : List Half) : Printer :=
  if e.queue.head?.any gone.contains then { e with
    queue := e.queue.filter fun n => !gone.contains n
    flight := none
    resends := 0
    blockTimer := .stopped
    retryTimer := .stopped
    endTimer := .stopped }
  else { e with queue := e.queue.filter fun n => !gone.contains n }

/-- A job back in its group's wait list (R164). -/
def Job.returned (j : Job) : Job := { j with delivery := .waiting, printer := none, blockOffered := false }

/-- The jobs with one of them replaced. -/
def State.jobsWith (s : State) (j : Job) : List Job := s.intake.jobs.map fun k => if k.number = j.number then j else k

/-- Printer `p` has the entry `e`, and its queue is as the rules keep it: its jobs are in the table, once each, and bound to it, only
the head is not QUEUED, and no block of a QUEUED job has been sent (R155, R156). -/
def State.queueWf (s : State) (p : Nat) (e : Printer) : Prop :=
  s.printer p = some e ∧ s.delivery.wf = true ∧ (s.intake.jobs.map Job.number).Nodup ∧ e.queue.Nodup ∧
    (∀ n ∈ e.queue, ∃ k, s.job n = some k ∧ k.printer = some p ∧ k.delivery ≠ .waiting) ∧
    (∀ n ∈ e.queue.tail, ∀ k, s.job n = some k → k.delivery = .queued) ∧
    ∀ n ∈ e.queue, ∀ k, s.job n = some k → k.delivery = .queued → ∀ page ∈ k.chain, s.pageUnsent page

/-- The jobs that leave a lost or paused printer: those whose group rebinds, QUEUED or with nothing delivered (R164). -/
def State.leavers (s : State) (e : Printer) : List Half :=
  e.queue.filter fun n => (s.job n).any fun k =>
    s.rebinds k && (decide (k.delivery = .queued) || (decide (k.delivery ≠ .ending) && decide (k.delivered = 0)))

/-- What is left of printer `p` when it is found UNREACHABLE or PAUSED and its head is not ENDING: a PRINTING head HELD, the leavers
back in their wait lists, and a print block of a leaving head withdrawn; `u` is the state with the leaving head's JOB_ABORT offered
(R164). -/
def State.lostFrom (s u : State) (p : Nat) (e : Printer) : State :=
  let why := s.unreachable e.station
  let st := if why = none then PrinterState.paused else .unreachable
  let gone := s.leavers e
  (u.withdrawn (if e.queue.head?.any gone.contains then ((s.headJob e).bind fun j => j.chain.head?).toList else [])).printingSet p
    ((e.left gone).seen st why)
    (s.intake.jobs.map fun k => if gone.contains k.number then k.returned
      else if e.queue.head? = some k.number ∧ k.delivery = .printing then { k with delivery := .held } else k)
    (s.mgmt.told p e st why)

/-- An UNREACHABLE printer's ENDING head `j` has finished with its pending outcome, or UNCONFIRMED, STOPPED added with
stop-after-job on, and the leavers are back in their wait lists (R160, R164; log entry 16). -/
def State.endedAway (s : State) (p : Nat) (e : Printer) (j : Job) : State :=
  let why := s.unreachable e.station
  let gone := s.leavers e
  let pause : PauseSet := { e.pause with stopped := e.pause.stopped || e.stopAfter }
  let done := (s.mgmt.told p e .unreachable why).noted (.jobDone
    ⟨j.number, j.pendingOutcome.getD .unconfirmed, j.source, j.origin, j.service, j.urgent, j.received, j.delivered,
      some (p, e.station)⟩)
  s.printingSet p (({ e with pause := pause }.left (j.number :: gone)).seen .unreachable why)
    ((s.intake.jobs.filter fun k => k.number ≠ j.number).map fun k => if gone.contains k.number then k.returned else k)
    (if pause = e.pause then done else done.noted (.printerState p e.station .unreachable .unreachable why pause))

/-- A READY printer's QUEUED or HELD head `j` is PRINTING, a QUEUED one under the printer's next sequence, and `flight` is the block
in flight when a new one was sent; `u` is the state with that block offered (R156; log entry 16). -/
def State.startedAs (s u : State) (p : Nat) (e : Printer) (j : Job) (flight : Option Flight) : State :=
  let k : Job := { j with
    delivery := .printing
    printerSeq := if j.delivery = .queued then e.nextSeq else j.printerSeq
    blockOffered := j.blockOffered || flight.isSome }
  u.printingSet p
    ((if flight.isSome then { e with flight := flight, blockTimer := .running e.blockTimeout } else e).seen .busy none)
    (s.jobsWith k) (s.mgmt.told p e .busy none)

/-- An evaluation of printer `p` with entry `e` takes `s` to `t`: a printer at work is found BUSY and one with nothing to do READY; a
waiting head of a READY printer starts and sends its block, if it has one (R156); an UNREACHABLE or PAUSED printer is left by the
jobs R164 sends away, its PRINTING head HELD, its ENDING head finished (R151, R164). -/
def State.evaluatesTo (s : State) (p : Nat) (e : Printer) (t : State) : Prop :=
  let why := s.unreachable e.station
  let abort (u : State) : Prop := s.offeredTo e.station .nothing ⟨e.station, s.table.gateway, 0x13, 0, 0⟩ u
  s.queueWf p e ∧
    ((why = none ∧ ∃ st, ((∃ j, s.headJob e = some j ∧ (j.delivery = .printing ∨ j.delivery = .ending) ∧ st = PrinterState.busy) ∨
          (e.queue = [] ∧ e.pause = PauseSet.clear ∧ st = .ready)) ∧
        t = s.printingSet p (e.seen st none) s.intake.jobs (s.mgmt.told p e st none)) ∨
      (why = none ∧ e.pause = PauseSet.clear ∧ ∃ j, s.headJob e = some j ∧ (j.delivery = .queued ∨ j.delivery = .held) ∧
        (((e.flight ≠ none ∨ j.hasBlock = false) ∧ t = s.startedAs s p e j none) ∨
          (e.flight = none ∧ j.hasBlock = true ∧
            ∃ f u, f = j.block (if j.delivery = .queued then e.nextSeq else j.printerSeq) ∧ s.blockOffered e.station f u ∧
              t = s.startedAs u p e j (some f)))) ∨
      ((∀ j, s.headJob e = some j → j.delivery ≠ .ending ∧ (why = none → j.delivery ≠ .printing)) ∧
        (why ≠ none ∨ e.pause ≠ PauseSet.clear) ∧
        let aborts : Prop := why = none ∧
          ∃ j, s.headJob e = some j ∧ j.number ∈ s.leavers e ∧ j.delivery = .held ∧ j.blockOffered = true
        ∃ u, ((aborts ∧ abort u) ∨ (¬ aborts ∧ u = s)) ∧ t = s.lostFrom u p e) ∨
      (why ≠ none ∧ ∃ j, s.headJob e = some j ∧ j.delivery = .ending ∧ j.chain = [] ∧ j.pendingOutcome ≠ some .printed ∧
        t = s.endedAway p e j))

/-- The printers of a list are evaluated one after another (R151). -/
def State.evaluatesAllTo (s : State) : List Nat → State → Prop
  | [], t => t = s
  | p :: ps, t => ∃ e u, s.evaluatesTo p e u ∧ State.evaluatesAllTo u ps t

/-- The printers of a list, left out of group `g`, give up the group's QUEUED jobs, each evaluated before the next (R151, R166; log
entry 46). -/
def State.givesUpTo (s : State) (g : Nat) : List Nat → State → Prop
  | [], t => t = s
  | p :: ps, t => ∃ e u gone, s.queueWf p e ∧
      gone = e.queue.filter (fun n => (s.job n).any fun k => decide (k.delivery = .queued) && decide (k.group = some g)) ∧
      (s.printingSet p (e.left gone) (s.intake.jobs.map fun k => if gone.contains k.number then k.returned else k) s.mgmt).evaluatesTo
        p (e.left gone) u ∧
      State.givesUpTo u g ps t

/-- A WAITING job is bindable under a group's threshold: CLOSED, or OPEN with the pages it asks for (R153). -/
def State.ripe (s : State) (grp : Group) (j : Job) : Prop :=
  j.isOpen = false ∨ (1 ≤ grp.threshold ∧ max 1 (grp.threshold * s.pool.quota / 8) ≤ j.chain.length)

/-- A printer entry in use that may be bound to (R151). -/
def State.able (s : State) (p : Nat) (e : Printer) : Prop :=
  s.printer p = some e ∧ s.unreachable e.station = none ∧ e.pause = PauseSet.clear

/-- No WAITING job can be bound: none is bindable, or its group has no member to choose (R153, R154). -/
def State.bindsNothing (s : State) : Prop :=
  ∀ j ∈ s.intake.jobs, j.delivery = .waiting → ∀ g grp, j.group = some g → s.group g = some grp → s.ripe grp j →
    ∀ p ∈ grp.members, ∀ e, s.able p e → grp.balanced = false ∧ e.queue ≠ []

/-- The printer a group's job is bound to: in an ORDERED group the first eligible member with an empty queue, in a BALANCED one the
eligible member of the smallest drain estimate, the lowest number on a tie (R154). -/
def State.chooses (s : State) (grp : Group) (p : Nat) (e : Printer) : Prop :=
  let drain (d : Printer) : Nat := ((d.queue.filterMap s.job).map fun k => k.received - k.delivered).sum * 1000 / d.rate
  p ∈ grp.members ∧ s.able p e ∧
    ((grp.balanced = true ∧ ∀ q ∈ grp.members, ∀ d, s.able q d → drain e < drain d ∨ (drain e = drain d ∧ p ≤ q)) ∨
      (grp.balanced = false ∧ e.queue = [] ∧
        ∃ pre post, grp.members = pre ++ p :: post ∧ ∀ q ∈ pre, ∀ d, s.able q d → d.queue ≠ []))

/-- The queue with job `j` placed in it by urgency: alone, or behind a head that is PRINTING, HELD or ENDING (R155). -/
def State.placed (s : State) (queue : List Half) (j : Job) (after : List Half) : Prop :=
  (queue = [] ∧ after = [j.number]) ∨
    ∃ head rest k, queue = head :: rest ∧ s.job head = some k ∧
      (k.delivery = .printing ∨ k.delivery = .held ∨ k.delivery = .ending) ∧
      ((j.urgent = false ∧ after = queue ++ [j.number]) ∨
        (j.urgent = true ∧ ∃ us ns, rest = us ++ ns ∧ (∀ m ∈ us, ∃ x, s.job m = some x ∧ x.urgent = true) ∧
          (∀ m, ns.head? = some m → ∀ x, s.job m = some x → x.urgent = false) ∧ after = head :: us ++ j.number :: ns))

/-- Job `j` is bound to printer `p` of group `grp`, placed in its queue, and the printer is evaluated, which leaves `t` (R151, R154 to
R156). -/
def State.bindsTo (s : State) (grp : Group) (j : Job) (t : State) : Prop :=
  ∃ p e queue, s.ripe grp j ∧ s.chooses grp p e ∧ s.placed e.queue j queue ∧
    (s.printingSet p { e with queue := queue } (s.jobsWith { j with delivery := .queued, printer := some p }) s.mgmt).evaluatesTo p
      { e with queue := queue } t

end Sys2Proof.Machine
end

