-- ==== Sys2Proof/WellFormed.lean ====
section
/-! DEFINITION. Which terms of Instr stand for a command: what an operand can be beyond what its type says. -/

namespace Sys2Proof

/-- A member count is one byte (R189). -/
def membersFit (members : List Byte) : Bool := decide (members.length < 256)

/-- Whether excursions stand in the order of the line, by rising count (R73). -/
def excursionsRise : List Excursion → Bool
  | [] => true
  | [_] => true
  | e :: f :: rest => decide (e.count < f.count) && excursionsRise (f :: rest)

/-- A probe has some amplitude, and its line's excursions come one after another (R73). -/
def lineFits (probe : Nat) (line : List Excursion) : Bool := decide (0 < probe) && excursionsRise line

/-- An impedance is a ratio of whole numbers above 0 (R76). -/
def ohmsFit (num den : Nat) : Bool := decide (0 < num) && decide (0 < den)

/-- Whether a term stands for a command. -/
def wellFormed : Instr → Bool
  | .setGroup _ _ _ _ _ members _ => membersFit members
  | .rangingComplete echo => lineFits echo.probe echo.line
  | .trimProbeComplete num den => ohmsFit num den
  | .pinOrPowerReset _ _ => true
  | .timeBaseTick => true
  | .messageReceived _ => true
  | .messageSent _ _ => true
  | .getInfo _ => true
  | .getStatus _ => true
  | .reset _ => true
  | .setNotices _ _ => true
  | .setSegmentConfig _ _ _ => true
  | .enableSegment _ _ => true
  | .disableSegment _ _ => true
  | .isolateSegment _ _ => true
  | .rejoinSegment _ _ => true
  | .parkSegment _ _ => true
  | .setTrim _ _ _ => true
  | .startLineTest _ _ _ => true
  | .abortLineTest _ _ => true
  | .getSegment _ _ => true
  | .getFaults _ _ => true
  | .clearFaults _ _ => true
  | .clearHistory _ _ => true
  | .setSyncWord _ _ _ _ _ => true
  | .getStation _ _ => true
  | .listStations _ _ => true
  | .pin _ _ _ => true
  | .unpin _ _ => true
  | .forget _ _ => true
  | .setAging _ _ _ => true
  | .setGatewayNumber _ _ => true
  | .setAlias _ _ _ _ => true
  | .clearAlias _ _ => true
  | .setProxyBase _ _ => true
  | .setUplink _ _ _ => true
  | .getPortCounters _ _ _ => true
  | .setPool _ _ _ => true
  | .getPool _ => true
  | .clearGroup _ _ => true
  | .setPrinter _ _ _ _ _ _ _ => true
  | .clearPrinter _ _ => true
  | .holdPrinter _ _ => true
  | .releasePrinter _ _ => true
  | .getPrinter _ _ => true
  | .getJob _ _ => true
  | .cancelJob _ _ => true
  | .listJobs _ _ => true
  | .setJobIdle _ _ => true
  | .activityStart _ => true
  | .syncWordComplete _ _ => true
  | .activityEnd _ _ => true
  | .collisionDetected _ => true
  | .jabberMark _ => true
  | .transmitAttempt _ => true
  | .backoffExpiry _ => true
  | .copySent _ => true
  | .settleTimerExpiry _ => true
  | .isolationOrder _ => true
  | .rejoinOrder _ => true
  | .isolationOrderResult _ => true
  | .supervisorStateEntry _ => true
  | .testerSegmentLeftIsolated _ => true
  | .windowExpiry _ => true
  | .flapTimerExpiry _ => true
  | .autoTestRequest _ => true
  | .quietCheckPassed => true
  | .quietCheckFailed => true
  | .quietWaitExpiry => true
  | .probeDisturbed => true
  | .agingTimerExpiry => true
  | .uplinkUp => true
  | .uplinkDown => true
  | .tunnelFrameReceived _ => true
  | .uplinkTransmitStart => true
  | .uplinkSendDone _ => true
  | .idleTimerExpiry _ => true
  | .jobChangeTaken => true
  | .printerEvaluation => true
  | .blockTimerExpiry _ => true
  | .retryTimerExpiry _ => true
  | .endTimerExpiry _ => true
  | .resetPinHeld => true

end Sys2Proof
end

