-- ==== Sys2Proof/Certificates/Slice0/Obligations.lean ====
section
/-! DEFINITION. The statements for the provers: what the manual's rules say the part does, family by family of its commands. -/

section

open Sys2Proof Sys2Proof.Machine

/-! ## The part, its resets and its clock -/

/-- The step takes the command at the front of the queue and carries it out with the queue's rest (spec/95); on an empty queue the
block idles, which is the model's choice (log entry 3). -/
def Obligations.StepRunsFrontCommand : Prop :=
  (∀ (c : Instr) (s : State), step { s with pending := c :: s.pending } = exec c s) ∧
  ∀ s : State, s.pending = [] → step s = .next s

/-- No rule of the manual stops the part: every command in every state has a next state, and so has every step. That an event which
cannot arise, and a term that stands for no command, have a next state too is the model's choice (log entries 2 and 36). The
commands that wait are no command's to change, a reset's neither: the model's choice (log entry 32). -/
def Obligations.EveryCommandCompletes : Prop :=
  ((∀ (c : Instr) (s : State), ∃ t, exec c s = .next t) ∧ ∀ s : State, ∃ t, step s = .next t) ∧
  (∀ (c : Instr) (s t : State), exec c s = .next t → t.pending = s.pending)

/-- The reset values of the chapters' tables (R7, R17, R18, R40, R41, R42, R65, R66, R84, R91, R98, R101, R102, R115, R116, R122,
R123, R132, R148, R149, R152, R176, R177, R178), those that the manual gives; values the model chose are left out. -/
def Obligations.ResetValues : Prop :=
  (∀ i, (State.reset.port i).state = .disabled ∧ (State.reset.port i).relay = .park ∧ (State.reset.port i).trim = 48 ∧
    (State.reset.port i).lineCode = 48 ∧ (State.reset.port i).policy = .nominal ∧ (State.reset.port i).settleTime = 20 ∧
    (State.reset.port i).settleTimer = .stopped ∧ (State.reset.port i).reason = none ∧ (State.reset.port i).service = [] ∧
    (State.reset.port i).transit = [] ∧ (State.reset.port i).current = none ∧ (State.reset.port i).rx = ⟨0, 0, 0, 0, 0, 0⟩ ∧
    (State.reset.port i).tx = ⟨0, 0, 0, 0⟩ ∧ (State.reset.port i).fwd = ⟨0, 0, 0, 0, 0, 0, 0, 0⟩) ∧
  State.reset.syncs = ⟨⟨0x6B1D59, 2, true⟩, ⟨0x4E72A3, 2, false⟩, ⟨0x19C6E5, 2, false⟩⟩ ∧
  (∀ i, (State.reset.sup i).counts = ⟨0, 0, 0, 0, 0⟩ ∧ (State.reset.sup i).windowTimer = .stopped ∧
    (State.reset.sup i).lastE = none ∧ (State.reset.sup i).health = 0 ∧ (State.reset.sup i).strikes = 0 ∧
    (State.reset.sup i).rejoins = 0 ∧ (State.reset.sup i).mask = 0 ∧ (State.reset.sup i).live = ⟨false, false, false⟩ ∧
    (State.reset.sup i).latched = ⟨false, false, false⟩ ∧ (State.reset.sup i).flaps = 0 ∧
    (State.reset.sup i).flapTimer = .stopped ∧ (State.reset.sup i).history = [] ∧ (State.reset.sup i).nextSeq = 0 ∧
    (State.reset.sup i).settings =
      { window := 10, shift := 2, high := 512, low := 128, strikes := 3, rejoinWindows := 5, maskWindows := 1,
        isolateSet := ⟨true, true, true⟩, autoIsolate := true, autoRejoin := true, autoTest := false, flapLimit := 3, vf := 660 }) ∧
  (State.reset.tester.context = none ∧ ∀ i, State.reset.tester.pendingFlags.get i = false ∧
    State.reset.tester.captures.get i = ⟨none, none⟩) ∧
  ((∀ n, State.reset.table.entry n = ⟨.empty, false, false, false⟩) ∧ State.reset.table.aliases = [] ∧
    (∀ i, State.reset.table.flags0.get i = false ∧ State.reset.table.flags255.get i = false) ∧
    State.reset.table.gateway = 253 ∧ State.reset.table.proxyBase = 0x0A3170000000 ∧ State.reset.table.agingUnit = 10 ∧
    State.reset.table.moveHold = 3 ∧ State.reset.table.agingTimer = .running 10000) ∧
  State.reset.uplink =
    { up := false, etherType := 0x9A2C, broadcast := false, service := [], transit := [], current := none,
      counters := ⟨0, 0, 0, 0, 0, 0, 0, 0, 0⟩, fwd := ⟨0, 0, 0, 0, 0, 0, 0, 0⟩ } ∧
  (State.reset.freePages = 1024 ∧ State.reset.pool.frames = [] ∧ State.reset.pool.reserve = 128 ∧ State.reset.pool.quota = 64 ∧
    State.reset.pool.lowestFree = 1024 ∧ State.reset.pool.reserveRefusals = 0 ∧ State.reset.pool.quotaRefusals = 0) ∧
  State.reset.intake = { jobs := [], nextNumber := 1, idleTime := 60, counters := ⟨0, 0, 0, 0, 0, 0⟩ } ∧
  ((∀ p, State.reset.printer p = none) ∧ ∀ g, State.reset.group g = none) ∧
  (State.reset.mgmt.rx.content = [] ∧ State.reset.mgmt.rx.hunting = true ∧ State.reset.mgmt.reply = none ∧
    State.reset.mgmt.refusal = none ∧ State.reset.mgmt.notices = [] ∧ State.reset.mgmt.lost = false ∧
    ∀ k, State.reset.mgmt.enabled.getLsbD k = decide (k < 13)) ∧
  State.reset.time.seconds = 0

/-- PIN_OR_POWER_RESET (R168, R178): from any state, every block is at its reset value, the rate is the one the straps select, and
STARTED is the notice being sent, with cause PIN_OR_POWER and that rate. The carrier that stands on a cable is not the part's to
reset (log entry 13), STARTED has left the queue because the idle transmitter takes it at once (log entry 12), and the model's own
queue of commands and count of draws stay (log entry 32): those three clauses are the model's choice. RESET_PIN_HELD (R178): the
line is driven idle, and while the pin is held nothing is taken from it: no message received and no request changes anything. -/
def Obligations.PinOrPowerResetAndResetPinHeld : Prop :=
  (∀ (a b : Bool) (rate : Nat) (s : State),
     (a, b, rate) ∈ [(false, false, 115200), (true, false, 230400), (false, true, 460800), (true, true, 921600)] →
     exec (.pinOrPowerReset a b) s = .next { State.reset with
       pending := s.pending
       draws := s.draws
       ports := s.ports.map fun p => { State.reset.port 0 with
         receiver := { (State.reset.port 0).receiver with lineCarrier := p.receiver.lineCarrier } }
       mgmt := { State.reset.mgmt with rate := rate, sending := some (.notice (.started .pinOrPower rate)) } }) ∧
  ((∀ s, exec .resetPinHeld s = .next { s with mgmt := { s.mgmt with pinHeld := true, sending := none, opening := true } }) ∧
   ∀ (c : Instr) (s : State), s.mgmt.pinHeld = true →
     ((encodeRequest c).isSome = true ∨ ∃ line, c = .messageReceived line) → exec c s = .next s)

/-- TIME_BASE_TICK (R161, R178): the seconds counter steps at the thousandth tick, the active time of each PRINTING job grows by 1
ms, and every timer that runs has 1 ms less, to 0 (how time left passes is the model's choice, log entry 1). Nothing else changes,
but that an idle management transmitter takes its next message. -/
def Obligations.TimeBaseTick : Prop :=
  (∀ n, Timer.stopped.tick = .stopped ∧ (Timer.running n).tick = .running (n - 1)) ∧
  ∀ s : State, ∃ t, exec .timeBaseTick s = .next t ∧
    t = { s with
      ports := t.ports
      sups := t.sups
      tester := { s.tester with context := t.tester.context }
      table := { s.table with agingTimer := s.table.agingTimer.tick }
      intake := { s.intake with jobs := t.intake.jobs }
      delivery := { s.delivery with printers := t.delivery.printers }
      time := t.time
      mgmt := s.mgmt.takeNext } ∧
    t.time = (if s.time.millis = 999 then ⟨s.time.seconds + 1, 0⟩ else ⟨s.time.seconds, s.time.millis + 1⟩) ∧
    (∀ i, t.port i = { s.port i with
      settleTimer := (s.port i).settleTimer.tick
      receiver := { (s.port i).receiver with carrierTimer := (s.port i).receiver.carrierTimer.tick } }) ∧
    (∀ i, t.sup i = { s.sup i with windowTimer := (s.sup i).windowTimer.tick, flapTimer := (s.sup i).flapTimer.tick }) ∧
    t.tester.context = s.tester.context.map (fun c => { c with wait := c.wait.tick }) ∧
    t.intake.jobs = s.intake.jobs.map (fun j => { j with
      idleTimer := j.idleTimer.tick
      activeTime := j.activeTime + if j.delivery = .printing then 1 else 0 }) ∧
    ∀ p, t.printer p = (s.printer p).map fun e => { e with
      blockTimer := e.blockTimer.tick
      retryTimer := e.retryTimer.tick
      endTimer := e.endTimer.tick }

/-! ## The management link -/

/-- GET_INFO (R174): the fixed facts, and the rate, which only a reset changes. That each fact takes the fewest bytes that hold its
value is the model's choice (log entry 21). -/
def Obligations.GetInfo : Prop :=
  (∀ (tag : Byte) (s : State), s.takes tag → exec (.getInfo tag) s = .next { s with
    mgmt := s.mgmt.answered (replyMsg 0x10 tag .ok ([0x01, 0x04, 0x20, 1] ++ nat4 s.mgmt.rate ++
      [4, 3, 254, 32, 0x04, 0x00, 0x01, 0x00, 64, 16, 8, 32, 0x01, 0x2C])) }) ∧
  ∀ (c : Instr) (s t : State), exec c s = .next t → t.mgmt.rate ≠ s.mgmt.rate →
    ∃ a b, c = .pinOrPowerReset a b ∨ (c = .messageSent a b ∧ s.mgmt.resetTaken = true)

/-- GET_STATUS (R175): a snapshot, and the notices-lost flag cleared after it is formed. SET_NOTICES (R177, R184): the set named is
taken, STARTED always in it and the bits of no kind left out; the reply gives it. RESET (R179): answered OK, and nothing is reset
yet. The two bytes that give the tester in GET_STATUS are the model's choice (log entry 21). -/
def Obligations.GetStatusSetNoticesAndReset : Prop :=
  (∀ (tag : Byte) (s : State), s.takes tag → exec (.getStatus tag) s = .next { s with
     mgmt := Mgmt.answered { s.mgmt with lost := false } (replyMsg 0x11 tag .ok
       (nat4 s.time.seconds.toNat ++ [(s.port 0).state.byte, (s.port 1).state.byte, (s.port 2).state.byte, (s.port 3).state.byte] ++
         [if s.uplink.up then 0x01 else 0x02] ++
         (match s.tester.context with
           | some c => [0x01, BitVec.ofNat 8 c.segment.val]
           | none => [0x00, 0xFF]) ++
         nat2 s.freePages ++ nat1 s.intake.jobs.length ++ nat1 s.mgmt.notices.length ++ [if s.mgmt.lost then 0x01 else 0x00])) }) ∧
  ((∀ (tag : Byte) (kinds : Half) (s : State), s.takes tag → ∃ set : Half,
     (∀ k, set.getLsbD k = (k = 0 || (k < 13 && kinds.getLsbD k))) ∧
     exec (.setNotices tag kinds) s = .next { s with
       mgmt := Mgmt.answered { s.mgmt with enabled := set } (replyMsg 0x13 tag .ok (nat2 set.toNat)) }) ∧
   ∀ (tag : Byte) (s : State), s.takes tag → exec (.reset tag) s = .next { s with
     mgmt := Mgmt.answered { s.mgmt with resetTaken := true } (replyMsg 0x12 tag .ok []) })

/-- MESSAGE_SENT (R171, R172, R179): the slot the message came from is emptied and the transmitter takes its next message; when the
reply is RESET's, the whole-part reset is taken with cause REQUEST, sampling the straps. With nothing on the line there is no such
event and nothing changes (log entry 2). The transmitter does not interrupt a message it has begun, short of a reset; and it begins
a notice only when neither a reply nor a refusal waits (R172). On the line a message stands before its closing delimiter, with a
delimiter before it only when it started after the line had been idle (R169): not when it was taken at the close of another. After
a reset STARTED is being sent, the carrier on each cable and the model's own queue and count of draws stay: the model's choice (log
entries 12, 13 and 32). -/
def Obligations.MessageSent : Prop :=
  (∀ (a b : Bool) (s : State),
     (∀ n, s.mgmt.sending = some (.notice n) →
       exec (.messageSent a b) s = .next { s with mgmt := Mgmt.takeNext { s.mgmt with sending := none, opening := false } }) ∧
     (s.mgmt.sending = some .refusal →
       exec (.messageSent a b) s = .next { s with
         mgmt := Mgmt.takeNext { s.mgmt with refusal := none, sending := none, opening := false } }) ∧
     (s.mgmt.sending = some .reply → s.mgmt.resetTaken = false →
       exec (.messageSent a b) s = .next { s with
         mgmt := Mgmt.takeNext { s.mgmt with reply := none, sending := none, opening := false } }) ∧
     (s.mgmt.sending = some .reply → s.mgmt.resetTaken = true → ∀ rate,
       (a, b, rate) ∈ [(false, false, 115200), (true, false, 230400), (false, true, 460800), (true, true, 921600)] →
       exec (.messageSent a b) s = .next { State.reset with
         pending := s.pending
         draws := s.draws
         ports := s.ports.map fun p => { State.reset.port 0 with
           receiver := { (State.reset.port 0).receiver with lineCarrier := p.receiver.lineCarrier } }
         mgmt := { State.reset.mgmt with rate := rate, sending := some (.notice (.started .request rate)) } }) ∧
     (s.mgmt.sending = none → exec (.messageSent a b) s = .next { s with mgmt := s.mgmt.takeNext })) ∧
  (∀ (c : Instr) (s t : State), exec c s = .next t →
     (∀ m, s.mgmt.sending = some m → t.mgmt.sending = some m ∨ c = .resetPinHeld ∨
       ∃ a b, c = .pinOrPowerReset a b ∨ c = .messageSent a b) ∧
     ∀ n, t.mgmt.sending = some (.notice n) → s.mgmt.sending = some (.notice n) ∨ (t.mgmt.reply = none ∧ t.mgmt.refusal = none)) ∧
  (∀ (a b : Bool) (s t : State) (m : Msg), s.mgmt.sending ≠ none → s.mgmt.resetTaken = false → exec (.messageSent a b) s = .next t →
     t.mgmt.onLine = some m → t.managementLine = m.lineBytes ++ [0x7E]) ∧
  ∀ (c : Instr) (s t : State), exec c s = .next t →
    (s.mgmt.sending = none → s.mgmt.opening = true → ∀ m, t.mgmt.onLine = some m → t.managementLine = [0x7E] ++ m.lineBytes ++ [0x7E]) ∧
    (t.mgmt.sending = none → t.mgmt.pinHeld = false → t.mgmt.opening = true ∧ t.managementLine = [])

/-- A request received as bytes does what the request's command does: for every request command, its message of R183, R184 and R189,
escaped as R169 says, between its delimiters, is received, decoded and carried out as the command itself. What the operand spells is
the model's choice (log entries 4 and 6). -/
def Obligations.MessageReceivedIsRequest : Prop :=
  ∀ (c : Instr) (code tag : Byte) (body : List Byte) (s : State), wellFormed c = true → encodeRequest c = some (code, tag, body) →
    (s.mgmt.rx.hunting = true ∨ s.mgmt.rx = ⟨false, [], false, false⟩) →
    exec (.messageReceived ((0x7E :: Msg.lineBytes ⟨0x01, code, tag, body⟩).map LineItem.byte)) s = exec c s

/-- Decoding and encoding agree over every request: the message of a well-formed request command decodes to that command, and a
message that decodes is the message of the command it decodes to (R184, R189). -/
def Obligations.RequestDecodeEncodeAgree : Prop :=
  (∀ (c : Instr) (code tag : Byte) (body : List Byte), wellFormed c = true → encodeRequest c = some (code, tag, body) →
    decodeRequest code tag body = some c) ∧
  ∀ (c : Instr) (code tag : Byte) (body : List Byte), decodeRequest code tag body = some c →
    wellFormed c = true ∧ encodeRequest c = some (code, tag, body)

/-- A request with tag 0 is refused with FORMAT and one that arrives while another is outstanding with SEQUENCE, both in the refusal
slot; it is not taken and changes no other state (R170 lines 3 and 4, R171). A request that names a segment above 3 is refused with
RANGE (R18), whatever else it carries. A line error anywhere in a message makes it undecodable: it is refused with FORMAT, tag 0, in
the refusal slot, or not at all while the slot is full, and nothing else changes (R168, R169, R170, R171). So do an escape byte just
before the closing delimiter, 1 to 4 or more than 305 content bytes, and a length field that is not the body's size (R169), while a
message of no content is ignored. Refused so is a message whose kind is not REQUEST (R170 line 2); and a request whose code or size
spells no request is taken and answered FORMAT with its own tag (R170 line 5). A message whose only content is a line error or an
escape byte counts among the undecodable by inference (log entry 7). What the operand spells is the model's choice (log entries 4
and 6). -/
def Obligations.MessagesRefused : Prop :=
  ((∀ (c : Instr) (code tag : Byte) (body : List Byte) (s : State), encodeRequest c = some (code, tag, body) →
      s.mgmt.pinHeld = false → (tag = 0 ∨ s.mgmt.reply.isSome = true) → exec c s = .next { s with
        mgmt := Mgmt.takeNext { s.mgmt with
          rx := ⟨false, [], false, false⟩
          refusal := if s.mgmt.refusal = none then some (if tag = 0 then ⟨0x02, 0x00, 0, [0x08]⟩ else ⟨0x02, code, tag, [0x09]⟩)
            else s.mgmt.refusal
          refusalOlder := if s.mgmt.refusal = none then s.mgmt.reply.isNone else s.mgmt.refusalOlder } }) ∧
   (∀ (c : Instr) (code tag seg : Byte) (rest : List Byte) (s : State), encodeRequest c = some (code, tag, seg :: rest) →
      0x20 ≤ code.toNat → code.toNat ≤ 0x2C → 3 < seg.toNat → s.takes tag →
      exec c s = .next { s with mgmt := s.mgmt.answered (replyMsg code tag .range []) })) ∧
  (∀ (line : List LineItem) (s : State), s.mgmt.pinHeld = false → s.mgmt.rx.hunting = false → (∀ x ∈ line, x ≠ .byte 0x7E) →
     .lineError ∈ line → exec (.messageReceived line) s = .next { s with
       mgmt := Mgmt.takeNext { s.mgmt with
         rx := ⟨false, [], false, false⟩
         refusal := if s.mgmt.refusal = none then some ⟨0x02, 0x00, 0x00, [0x08]⟩ else s.mgmt.refusal
         refusalOlder := if s.mgmt.refusal = none then s.mgmt.reply.isNone else s.mgmt.refusalOlder } }) ∧
  (∀ (pieces : List (Bool × Byte)) (s : State), s.mgmt.pinHeld = false →
     (s.mgmt.rx.hunting = true ∨ s.mgmt.rx = ⟨false, [], false, false⟩) →
     (∀ x ∈ pieces, if x.1 = true then x.2 ≠ 0x5E else x.2 ≠ 0x7D ∧ x.2 ≠ 0x7E) →
     let content := pieces.map Prod.snd
     let line : List Byte := 0x7E :: pieces.flatMap fun x => if x.1 then [0x7D, x.2 ^^^ 0x20] else [x.2]
     let refused (bytes : List Byte) : Prop := exec (.messageReceived (bytes.map LineItem.byte)) s = .next { s with
       mgmt := Mgmt.takeNext { s.mgmt with
         rx := ⟨false, [], false, false⟩
         refusal := if s.mgmt.refusal = none then some ⟨0x02, 0x00, 0x00, [0x08]⟩ else s.mgmt.refusal
         refusalOlder := if s.mgmt.refusal = none then s.mgmt.reply.isNone else s.mgmt.refusalOlder } }
     refused (line ++ [0x7D]) ∧
     (content = [] → exec (.messageReceived (line.map LineItem.byte)) s = .next { s with
       mgmt := Mgmt.takeNext { s.mgmt with rx := ⟨false, [], false, false⟩ } }) ∧
     (content ≠ [] → content.length < 5 → refused line) ∧ (305 < content.length → refused line) ∧
     (5 ≤ content.length → content.length ≤ 305 →
       256 * (content.getD 3 0).toNat + (content.getD 4 0).toNat ≠ content.length - 5 → refused line)) ∧
  ∀ (kind code tag : Byte) (body : List Byte) (s : State), s.mgmt.pinHeld = false → body.length ≤ 300 →
    (s.mgmt.rx.hunting = true ∨ s.mgmt.rx = ⟨false, [], false, false⟩) →
    let c : Instr := .messageReceived ((0x7E :: Msg.lineBytes ⟨kind, code, tag, body⟩).map LineItem.byte)
    (kind ≠ 0x01 → exec c s = .next { s with
      mgmt := Mgmt.takeNext { s.mgmt with
        rx := ⟨false, [], false, false⟩
        refusal := if s.mgmt.refusal = none then some ⟨0x02, 0x00, 0x00, [0x08]⟩ else s.mgmt.refusal
        refusalOlder := if s.mgmt.refusal = none then s.mgmt.reply.isNone else s.mgmt.refusalOlder } }) ∧
    (kind = 0x01 → s.takes tag → decodeRequest code tag body = none → exec c s = .next { s with
      mgmt := s.mgmt.answered (replyMsg code tag .format []) })

/-- Every request that is taken fills the reply slot with its code and tag; a status other than OK or ACCEPTED goes alone and has
changed nothing; ACCEPTED comes from START_LINE_TEST alone, FULL from no request (R171, R173). And every reply body fits the
300-byte limit (chapter 10), while the fault histories keep to eight records (R60). -/
def Obligations.RequestsAnswered : Prop :=
  ∀ (c : Instr) (code tag : Byte) (body : List Byte) (s t : State), encodeRequest c = some (code, tag, body) → s.takes tag →
    exec c s = .next t → ∃ st rest, t.mgmt.reply = some (replyMsg code tag st rest) ∧ st ≠ .full ∧
      (st = .accepted → code = 0x27) ∧
      (st ≠ .ok → st ≠ .accepted → rest = [] ∧ t = { s with mgmt := s.mgmt.answered (replyMsg code tag st []) }) ∧
      (s.supsWf = true → (replyMsg code tag st rest).body.length ≤ 300)


/-! ## Segment requests -/

/-- ENABLE (R24): a DISABLED segment goes to SETTLING, its relay to TRANSCEIVER, its line code to the trim code, and the settle
timer starts; its receiver is connected, and times a carrier that is there already (R12). The change is passed on to the Line
Supervisor and to Printer Delivery, whose events of it wait in a queue, which is the model's choice (R23, log entry 5); the
notice is passed, the reply OK. In any other state the request is refused with STATE and nothing changes. -/
def Obligations.EnableSegment : Prop :=
  ∀ (i : SegIx) (tag : Byte) (s : State), s.takes tag →
    ((s.port i).state = .disabled → ∃ t, exec (.enableSegment tag (segByte i)) s = .next t ∧
      t = { s with ports := t.ports, raised := t.raised, mgmt := t.mgmt } ∧
      t.port i = { s.port i with
        state := .settling
        relay := .transceiver
        lineCode := (s.port i).trim
        settleTimer := .running (s.port i).settleTime
        reason := none
        receiver := { (s.port i).receiver with
          marked := false
          carrierTimer := if (s.port i).receiver.lineCarrier then .running 4 else .stopped
          reception := none } } ∧
      (∀ j, j ≠ i → t.port j = s.port j) ∧
      t.raised = s.raised ++ [.stateEntry i .disabled .settling none, .segmentChange i] ∧
      t.mgmt = (s.mgmt.noted (.segmentState i .disabled .settling none .transceiver (s.port i).trim .request)).answered
        (replyMsg 0x21 tag .ok [])) ∧
    ((s.port i).state ≠ .disabled → exec (.enableSegment tag (segByte i)) s = .next { s with
      mgmt := s.mgmt.answered (replyMsg 0x21 tag .state []) })

/-- DISABLE (R33, R18): a segment in SETTLING, FORWARDING, ISOLATED or PARKED goes to DISABLED. Relay and line code as R19 and
R21 have them, queues flushed and counted (R35), isolation reason, receiver, supervision items and pending flag cleared; trim
code, policy, settle time, port counters, supervision settings, history, next sequence and captures kept, each flushed entry's
stored frame losing one reference (R126). A DISABLED segment is answered OK and nothing changes. (The supervision items are
cleared in the request's own event: log entry 15.) DISABLE of a segment under test (R33, R70, R80): its pending flag is cleared,
the test ends ABORTED with its TEST_RESULT, the tester is free and serves a pending test, then the segment goes to DISABLED with
its SEGMENT_STATE; trim code and captures stay. How the change waits for the blocks it is passed to is the model's choice (log
entry 5), the order of an aborted test's events and the line code in the notice of a test's start are inferences (log entries 28
and 31). -/
def Obligations.DisableSegment : Prop :=
  (∀ (i : SegIx) (tag : Byte) (s : State), s.takes tag → s.portsWf = true →
     ((s.port i).state = .disabled → exec (.disableSegment tag (segByte i)) s = .next { s with
       mgmt := s.mgmt.answered (replyMsg 0x22 tag .ok []) }) ∧
     ((s.port i).state ≠ .disabled → (s.port i).state ≠ .testing → ∃ t, exec (.disableSegment tag (segByte i)) s = .next t ∧
       t = { s with ports := t.ports, sups := t.sups, tester := t.tester, pool := t.pool, raised := t.raised, mgmt := t.mgmt } ∧
       t.port i = { s.port i with
         state := .disabled
         relay := .park
         lineCode := match (s.port i).policy with
           | .retain => (s.port i).trim
           | .nominal => 48
           | .noLoad => 0
         settleTimer := .stopped
         reason := none
         service := []
         transit := []
         current := none
         tx := { (s.port i).tx with
           flushed := (s.port i).tx.flushed + BitVec.ofNat 32 ((s.port i).service.length + (s.port i).transit.length) }
         receiver := { (s.port i).receiver with marked := false, carrierTimer := .stopped, reception := none } } ∧
       (∀ j, j ≠ i → t.port j = s.port j ∧ t.sup j = s.sup j ∧ t.tester.pendingFlags.get j = s.tester.pendingFlags.get j) ∧
       t.sup i = { State.reset.sup i with
         history := (s.sup i).history
         nextSeq := (s.sup i).nextSeq
         settings := (s.sup i).settings } ∧
       t.tester = { s.tester with pendingFlags := t.tester.pendingFlags } ∧ t.tester.pendingFlags.get i = false ∧
       s.refsDropped t (((s.port i).service ++ (s.port i).transit).map QEntry.source) ∧
       t.raised = s.raised ++ [.stateEntry i (s.port i).state .disabled none] ++
         (if (s.port i).state = .isolated then [.leftIsolated i] else []) ++ [.segmentChange i] ∧
       t.mgmt = (s.mgmt.noted (.segmentState i (s.port i).state .disabled none .park (t.port i).lineCode .request)).answered
         (replyMsg 0x22 tag .ok []))) ∧
  (∀ (i : SegIx) (tag : Byte) (s u : State) (c : TestContext) (code : LoadCode), s.takes tag → s.portsWf = true →
     s.tester.context = some c → c.segment = i →
     u = State.testerFreed { s with
       tester := { s.tester with pendingFlags := s.tester.pendingFlags.set i false }
       mgmt := s.mgmt.noted (s.reportOf c .aborted) } →
     code = (match (s.port i).policy with
       | .retain => (s.port i).trim
       | .nominal => 48
       | .noLoad => 0) →
     exec (.disableSegment tag (segByte i)) s = .next { u with
       ports := u.ports.set i { s.port i with
         state := .disabled
         relay := .park
         lineCode := code
         reason := none
         receiver := { (s.port i).receiver with marked := false, carrierTimer := .stopped, reception := none } }
       sups := u.sups.set i { State.reset.sup i with
         history := (s.sup i).history
         nextSeq := (s.sup i).nextSeq
         settings := (s.sup i).settings }
       raised := u.raised ++ [.stateEntry i .testing .disabled none, .segmentChange i]
       mgmt := (u.mgmt.noted (.segmentState i .testing .disabled none .park code .request)).answered (replyMsg 0x22 tag .ok []) })

/-- ISOLATE (R27): a FORWARDING or SETTLING segment goes to ISOLATED with reason REQUESTED; both queues are flushed (R35, R126),
the settle timer is stopped, relay and line code stay. Elsewhere it is refused with STATE and nothing changes. How the change
waits for the blocks it is passed to is the model's choice (log entry 5). -/
def Obligations.IsolateSegment : Prop :=
  ∀ (i : SegIx) (tag : Byte) (s : State), s.takes tag → s.portsWf = true →
    ((s.port i).state = .forwarding ∨ (s.port i).state = .settling → ∃ t, exec (.isolateSegment tag (segByte i)) s = .next t ∧
      t = { s with ports := t.ports, pool := t.pool, raised := t.raised, mgmt := t.mgmt } ∧
      t.port i = { s.port i with
        state := .isolated
        settleTimer := .stopped
        reason := some .requested
        service := []
        transit := []
        current := none
        tx := { (s.port i).tx with
          flushed := (s.port i).tx.flushed + BitVec.ofNat 32 ((s.port i).service.length + (s.port i).transit.length) } } ∧
      (∀ j, j ≠ i → t.port j = s.port j) ∧ s.refsDropped t (((s.port i).service ++ (s.port i).transit).map QEntry.source) ∧
      t.raised = s.raised ++ [.stateEntry i (s.port i).state .isolated (some .requested), .segmentChange i] ∧
      t.mgmt = (s.mgmt.noted (.segmentState i (s.port i).state .isolated (some .requested) .transceiver (s.port i).trim
        .request)).answered (replyMsg 0x23 tag .ok [])) ∧
    ((s.port i).state ≠ .forwarding → (s.port i).state ≠ .settling → exec (.isolateSegment tag (segByte i)) s = .next { s with
      mgmt := s.mgmt.answered (replyMsg 0x23 tag .state []) })

/-- PARK (R30): a FORWARDING, SETTLING or ISOLATED segment goes to PARKED: relay at PARK, line code by the policy, queues
flushed (R35, R126), settle timer stopped, reason cleared, reception cut off and jabber reported stopped (R12, R15). In PARKED
it is answered OK and nothing changes, in TESTING refused with BUSY, in DISABLED with STATE. How the change waits for the blocks
it is passed to is the model's choice (log entry 5). -/
def Obligations.ParkSegment : Prop :=
  ∀ (i : SegIx) (tag : Byte) (s : State), s.takes tag → s.portsWf = true →
    ((s.port i).state = .forwarding ∨ (s.port i).state = .settling ∨ (s.port i).state = .isolated →
      ∃ t, exec (.parkSegment tag (segByte i)) s = .next t ∧
      t = { s with ports := t.ports, sups := t.sups, pool := t.pool, raised := t.raised, mgmt := t.mgmt } ∧
      t.port i = { s.port i with
        state := .parked
        relay := .park
        lineCode := match (s.port i).policy with
          | .retain => (s.port i).trim
          | .nominal => 48
          | .noLoad => 0
        settleTimer := .stopped
        reason := none
        service := []
        transit := []
        current := none
        tx := { (s.port i).tx with
          flushed := (s.port i).tx.flushed + BitVec.ofNat 32 ((s.port i).service.length + (s.port i).transit.length) }
        receiver := { (s.port i).receiver with marked := false, carrierTimer := .stopped, reception := none } } ∧
      (∀ j, j ≠ i → t.port j = s.port j ∧ t.sup j = s.sup j) ∧
      t.sup i = { s.sup i with live := { (s.sup i).live with
        jabber := (s.sup i).live.jabber && !(s.port i).receiver.marked } } ∧
      s.refsDropped t (((s.port i).service ++ (s.port i).transit).map QEntry.source) ∧
      t.raised = s.raised ++ [.stateEntry i (s.port i).state .parked none] ++
        (if (s.port i).state = .isolated then [.leftIsolated i] else []) ++ [.segmentChange i] ∧
      t.mgmt = (s.mgmt.noted (.segmentState i (s.port i).state .parked none .park (t.port i).lineCode .request)).answered
        (replyMsg 0x25 tag .ok [])) ∧
    (∀ st, ((s.port i).state, st) ∈ [(SegState.parked, Status.ok), (.testing, .busy), (.disabled, .state)] →
      exec (.parkSegment tag (segByte i)) s = .next { s with mgmt := s.mgmt.answered (replyMsg 0x25 tag st []) })

/-- REJOIN (R29, R58): an ISOLATED or PARKED segment goes to SETTLING: relay at TRANSCEIVER, line code at the trim code, settle
timer started, reason cleared; its flap count is set to 0 and the flap timer stopped. In TESTING it is refused with BUSY, elsewhere
with STATE, and nothing changes. How the change waits for the blocks it is passed to is the model's choice (log entry 5). The flaps
are cleared in the request's own event (log entry 15). -/
def Obligations.RejoinSegment : Prop :=
  ∀ (i : SegIx) (tag : Byte) (s : State), s.takes tag →
    ((s.port i).state = .isolated ∨ (s.port i).state = .parked → ∃ t, exec (.rejoinSegment tag (segByte i)) s = .next t ∧
      t = { s with ports := t.ports, sups := t.sups, raised := t.raised, mgmt := t.mgmt } ∧
      t.port i = { s.port i with
        state := .settling
        relay := .transceiver
        lineCode := (s.port i).trim
        settleTimer := .running (s.port i).settleTime
        reason := none
        receiver := if (s.port i).state = .isolated then (s.port i).receiver else { (s.port i).receiver with
          marked := false
          carrierTimer := if (s.port i).receiver.lineCarrier then .running 4 else .stopped
          reception := none } } ∧
      t.sup i = { s.sup i with flaps := 0, flapTimer := .stopped } ∧
      (∀ j, j ≠ i → t.port j = s.port j ∧ t.sup j = s.sup j) ∧
      t.raised = s.raised ++ [.stateEntry i (s.port i).state .settling none] ++
        (if (s.port i).state = .isolated then [.leftIsolated i] else []) ++ [.segmentChange i] ∧
      t.mgmt = (s.mgmt.noted (.segmentState i (s.port i).state .settling none .transceiver (s.port i).trim .request)).answered
        (replyMsg 0x24 tag .ok [])) ∧
    ((s.port i).state = .testing → exec (.rejoinSegment tag (segByte i)) s = .next { s with
      mgmt := s.mgmt.answered (replyMsg 0x24 tag .busy []) }) ∧
    ((s.port i).state = .disabled ∨ (s.port i).state = .settling ∨ (s.port i).state = .forwarding →
      exec (.rejoinSegment tag (segByte i)) s = .next { s with mgmt := s.mgmt.answered (replyMsg 0x24 tag .state []) })

/-- SET_TRIM (R22): a code of 1 to 63 is taken in any state, 0 is taken unless the segment is FORWARDING, where it is ignored, and
above 63 is refused with RANGE. A code taken goes on the line at once in SETTLING, FORWARDING and ISOLATED and, under RETAIN, in
DISABLED and PARKED; in TESTING the line code stays the tester's, and the new code is what the segment has when the test is ended by
ABORT_LINE_TEST, while a trim search that completes with a result afterwards (R76, R77) replaces it; that the last probe's impedance
comes as an operand, a ratio, is the model's choice (log entry 23). The reply gives the code in force. -/
def Obligations.SetTrim : Prop :=
  ∀ (i : SegIx) (tag : Byte) (code : Byte) (s : State), s.takes tag →
    (63 < code.toNat → exec (.setTrim tag (segByte i) code) s = .next { s with
      mgmt := s.mgmt.answered (replyMsg 0x26 tag .range []) }) ∧
    (code = 0 → (s.port i).state = .forwarding → exec (.setTrim tag (segByte i) code) s = .next { s with
      mgmt := s.mgmt.answered (replyMsg 0x26 tag .ok [segByte i, (s.port i).trim.setWidth 8]) }) ∧
    (code.toNat ≤ 63 → (code = 0 → (s.port i).state ≠ .forwarding) → ∃ t, exec (.setTrim tag (segByte i) code) s = .next t ∧
      t = { s with ports := t.ports, mgmt := s.mgmt.answered (replyMsg 0x26 tag .ok [segByte i, code]) } ∧
      t.port i = { s.port i with
        trim := BitVec.ofNat 6 code.toNat
        lineCode :=
          if (s.port i).state = .testing ∨
              (((s.port i).state = .disabled ∨ (s.port i).state = .parked) ∧ (s.port i).policy ≠ .retain)
          then (s.port i).lineCode else BitVec.ofNat 6 code.toNat } ∧
      (∀ j, j ≠ i → t.port j = s.port j) ∧
      ∀ (c : TestContext) (m : Mgmt), s.tester.context = some c → c.segment = i → s.portsWf = true →
        s.tester.pendingFlags.get i = false →
        (∀ tag', State.takes { t with mgmt := m } tag' → ∃ u, exec (.abortLineTest tag' (segByte i)) { t with mgmt := m } = .next u ∧
          (u.port i).trim = BitVec.ofNat 6 code.toNat ∧
          (u.port i).lineCode = if c.parkedBefore then (match (s.port i).policy with
            | .retain => BitVec.ofNat 6 code.toNat
            | .nominal => 48
            | .noLoad => 0) else BitVec.ofNat 6 code.toNat) ∧
        ∀ (a b : Nat) (kept : LoadCode), c.stage = .trim → c.bit = 0 → 0 < a → 0 < b → kept ≠ 0 →
          kept = (if 2400 * b > a * (c.accepted + 1).toNat then c.accepted + 1 else c.accepted) →
          ∃ u, exec (.trimProbeComplete a b) { t with mgmt := m } = .next u ∧ (u.port i).trim = kept)

/-- SET_SEGMENT_CONFIG (R21, R42): each number is clamped to its range, the thresholds are then judged, and every setting is taken
and given back, the line code of a segment at PARK following the policy at once; low threshold not below high threshold is refused
with RANGE, and so is a value with no meaning in an enumerated field (R170), with nothing changed. -/
def Obligations.SetSegmentConfig : Prop :=
  ∀ (i : SegIx) (tag : Byte) (b : SegmentConfigBody) (s : State), s.takes tag →
    let high := min 1023 b.high.toNat
    let low := min 1023 b.low.toNat
    let wild := 1 < b.autoIsolate.toNat ∨ 1 < b.autoRejoin.toNat ∨ 1 < b.autoTest.toNat ∨ 7 < b.isolateSet.toNat ∨
      b.parkPolicy.toNat = 0 ∨ 3 < b.parkPolicy.toNat
    (wild ∨ high ≤ low → exec (.setSegmentConfig tag (segByte i) b) s = .next { s with
      mgmt := s.mgmt.answered (replyMsg 0x20 tag .range []) }) ∧
    (¬ wild → low < high → ∃ t policy, exec (.setSegmentConfig tag (segByte i) b) s = .next t ∧
      (b.parkPolicy, policy) ∈ [((1 : Byte), ParkPolicy.retain), (2, .nominal), (3, .noLoad)] ∧
      t = { s with ports := t.ports, sups := t.sups, mgmt := t.mgmt } ∧
      t.sup i = { s.sup i with settings :=
        { window := max 1 b.window.toNat, shift := min 4 b.shift.toNat, high := high, low := low,
          strikes := max 1 (min 8 b.strikes.toNat), rejoinWindows := max 1 (min 32 b.rejoinWindows.toNat),
          maskWindows := min 8 b.maskWindows.toNat,
          isolateSet := ⟨b.isolateSet.getLsbD 0, b.isolateSet.getLsbD 1, b.isolateSet.getLsbD 2⟩,
          autoIsolate := b.autoIsolate = 1, autoRejoin := b.autoRejoin = 1, autoTest := b.autoTest = 1,
          flapLimit := max 1 (min 7 b.flapLimit.toNat), vf := max 500 (min 990 b.vf.toNat) } } ∧
      t.port i = { s.port i with
        policy := policy
        settleTime := max 1 b.settleTime.toNat
        lineCode := if (s.port i).relay = .transceiver then (s.port i).lineCode
          else match policy with
            | .retain => (s.port i).trim
            | .nominal => 48
            | .noLoad => 0 } ∧
      (∀ j, j ≠ i → t.port j = s.port j ∧ t.sup j = s.sup j) ∧
      t.mgmt = s.mgmt.answered (replyMsg 0x20 tag .ok
        ([segByte i] ++ nat1 (max 1 b.window.toNat) ++ nat1 (min 4 b.shift.toNat) ++ nat2 high ++ nat2 low ++
          nat1 (max 1 (min 8 b.strikes.toNat)) ++ nat1 (max 1 (min 32 b.rejoinWindows.toNat)) ++ nat1 (min 8 b.maskWindows.toNat) ++
          [b.isolateSet, b.autoIsolate, b.autoRejoin, b.autoTest] ++ nat1 (max 1 (min 7 b.flapLimit.toNat)) ++
          nat2 (max 500 (min 990 b.vf.toNat)) ++ [b.parkPolicy] ++ nat1 (max 1 b.settleTime.toNat))))

/-- START_LINE_TEST (R67, R69): on an ISOLATED or PARKED segment with the tester free a test starts, answered ACCEPTED: the context
filled, the pending flag cleared, the segment in TESTING with its relay at TRANSCEIVER and its line code at 48, its isolation reason
kept, its reception cut off. Otherwise the request is refused, by the segment's state first, and changes nothing. How the change
waits for the blocks it is passed to is the model's choice (log entry 5). That the notice gives line code 48 is inferred (log entry
31). -/
def Obligations.StartLineTest : Prop :=
  ∀ (i : SegIx) (tag trim : Byte) (s : State), s.takes tag → s.portsWf = true →
    (1 < trim.toNat → exec (.startLineTest tag (segByte i) trim) s = .next { s with
      mgmt := s.mgmt.answered (replyMsg 0x27 tag .range []) }) ∧
    (trim.toNat ≤ 1 → (s.port i).state = .disabled ∨ (s.port i).state = .settling ∨ (s.port i).state = .forwarding →
      exec (.startLineTest tag (segByte i) trim) s = .next { s with mgmt := s.mgmt.answered (replyMsg 0x27 tag .state []) }) ∧
    (trim.toNat ≤ 1 → (s.port i).state = .testing ∨
        (((s.port i).state = .isolated ∨ (s.port i).state = .parked) ∧ s.tester.context.isSome = true) →
      exec (.startLineTest tag (segByte i) trim) s = .next { s with mgmt := s.mgmt.answered (replyMsg 0x27 tag .busy []) }) ∧
    (trim.toNat ≤ 1 → (s.port i).state = .isolated ∨ (s.port i).state = .parked → s.tester.context = none →
      ∃ t, exec (.startLineTest tag (segByte i) trim) s = .next t ∧
      t = { s with ports := t.ports, sups := t.sups, tester := t.tester, raised := t.raised, mgmt := t.mgmt } ∧
      t.tester = { s.tester with context := t.tester.context, pendingFlags := t.tester.pendingFlags } ∧
      t.tester.context = some
        { segment := i, cause := .request, stage := .quietCheck, attempts := 1, trimRequested := trim = 1, accepted := 0, bit := 5,
          prior := (s.port i).trim, parkedBefore := (s.port i).state = .parked, rangingDone := false, wait := .stopped,
          raiseAfterWait := false } ∧
      t.tester.pendingFlags.get i = false ∧
      t.port i = { s.port i with
        state := .testing
        relay := .transceiver
        lineCode := 48
        receiver := { (s.port i).receiver with marked := false, carrierTimer := .stopped, reception := none } } ∧
      t.sup i = { s.sup i with live := { (s.sup i).live with
        jabber := (s.sup i).live.jabber && !(s.port i).receiver.marked } } ∧
      (∀ j, j ≠ i → t.port j = s.port j ∧ t.sup j = s.sup j ∧ t.tester.pendingFlags.get j = s.tester.pendingFlags.get j) ∧
      t.raised = s.raised ++ [.stateEntry i (s.port i).state .testing (s.port i).reason] ++
        (if (s.port i).state = .isolated then [.leftIsolated i] else []) ++ [.segmentChange i] ∧
      t.mgmt = (s.mgmt.noted (.segmentState i (s.port i).state .testing none .transceiver 48 .tester)).answered
        (replyMsg 0x27 tag .accepted []))

/-- ABORT_LINE_TEST (R79, R32): on the segment under test the test ends ABORTED: TEST_RESULT, then the segment's return to its
resume state with its trim code as it is, and the tester is free and serves a pending test (R70). Refused with STATE when the tester
is free or busy with another segment. How the change waits for the blocks it is passed to is the model's choice (log entry 5). That
a test's notice gives line code 48 is inferred (log entry 31). -/
def Obligations.AbortLineTest : Prop :=
  ∀ (i : SegIx) (tag : Byte) (s : State), s.takes tag → s.portsWf = true →
    (s.tester.context.map TestContext.segment ≠ some i → exec (.abortLineTest tag (segByte i)) s = .next { s with
      mgmt := s.mgmt.answered (replyMsg 0x28 tag .state []) }) ∧
    ∀ (c : TestContext) (u : State), s.tester.context = some c → c.segment = i → u = s.testEnded i c.parkedBefore (s.reportOf c .aborted) →
      exec (.abortLineTest tag (segByte i)) s = .next { u with mgmt := u.mgmt.answered (replyMsg 0x28 tag .ok []) }

/-- CLEAR_FAULTS (R57), CLEAR_HISTORY (R61): the latched flags, or the history, of one segment are cleared and nothing else is.
SET_SYNC_WORD (R7): the entry takes the pattern, the tolerance clamped to 3 and the enabled setting, and the reply gives them; an
index above 2, or an enabled byte with no meaning, is refused with RANGE. -/
def Obligations.ClearFaultsHistoryAndSyncWord : Prop :=
  (∀ (i : SegIx) (tag : Byte) (s : State), s.takes tag → exec (.clearFaults tag (segByte i)) s = .next { s with
    sups := s.sups.set i { s.sup i with latched := ⟨false, false, false⟩ }
    mgmt := s.mgmt.answered (replyMsg 0x2B tag .ok []) }) ∧
  (∀ (i : SegIx) (tag : Byte) (s : State), s.takes tag → exec (.clearHistory tag (segByte i)) s = .next { s with
    sups := s.sups.set i { s.sup i with history := [] }
    mgmt := s.mgmt.answered (replyMsg 0x2C tag .ok []) }) ∧
  (∀ (i : SyncIx) (tag : Byte) (pattern : SyncWord) (tolerance : Byte) (on : Bool) (s : State), s.takes tag →
    exec (.setSyncWord tag (BitVec.ofNat 8 i.val) pattern tolerance (if on then 1 else 0)) s = .next { s with
      syncs := s.syncs.set i ⟨pattern, min 3 tolerance.toNat, on⟩
      mgmt := s.mgmt.answered (replyMsg 0x2D tag .ok ([BitVec.ofNat 8 i.val] ++
        [pattern.extractLsb' 16 8, pattern.extractLsb' 8 8, pattern.extractLsb' 0 8] ++ nat1 (min 3 tolerance.toNat) ++
        [if on then 1 else 0])) }) ∧
  ∀ (tag index : Byte) (pattern : SyncWord) (tolerance enabled : Byte) (s : State), s.takes tag →
    2 < index.toNat ∨ 1 < enabled.toNat → exec (.setSyncWord tag index pattern tolerance enabled) s = .next { s with
      mgmt := s.mgmt.answered (replyMsg 0x2D tag .range []) }

/-! ## Reading, counters, uplink and pool -/

/-- The reading requests change nothing but the answer, which gives every item of its rule in order: GET_SEGMENT (R18, R64, R83);
GET_FAULTS (R63): live conditions, latched flags, the number of records and the records, newest first; GET_STATION and LIST_STATIONS
(R105); GET_PRINTER (R167); GET_JOB and LIST_JOBS (R147). The lists give at most 32 stations or 16 jobs in ascending order from the
start, and where to go on from. Part of their layout, the sizes of rates among it, is the model's choice (log entry 21). -/
def Obligations.ReadingRequests : Prop :=
  ∀ (tag : Byte) (s : State), s.takes tag →
    let told (c : Instr) (code : Byte) (body : List Byte) : Prop := exec c s = .next { s with
      mgmt := s.mgmt.answered (replyMsg code tag .ok body) }
    let timer (x : Timer) : List Byte := match x with
      | .stopped => [0xFF, 0xFF, 0xFF, 0xFF]
      | .running left => nat4 left
    let yes (x : Bool) : Byte := if x then 1 else 0
    let capture (x : Option Capture) : List Byte := match x with
      | none => [0, 0, 0, 0, 0, 0, 0, 0, 0, 0, 0, 0]
      | some k => [1] ++ nat2 k.t ++ [k.kind.byte] ++ nat2 k.vf ++ nat2 k.distance ++ nat4 k.time.toNat
    let place (x : Side) : List Byte := nat1 x.segment.val ++ nat1 x.silence ++ nat1 x.sync.val
    (∀ i : SegIx, told (.getSegment tag (segByte i)) 0x29
      (let p := s.port i
       let c := s.sup i
       let x := c.settings
       [p.state.byte, p.relay.byte, p.trim.setWidth 8, p.lineCode.setWidth 8, p.policy.byte] ++ nat1 p.settleTime ++
         [match p.reason with
          | some r => r.byte
          | none => 0xFF] ++ nat1 p.service.length ++ nat1 p.transit.length ++ timer p.settleTimer ++
         (nat4 c.counts.g ++ nat4 c.counts.m ++ nat4 c.counts.c ++ nat4 c.counts.k ++ nat4 c.counts.j ++ timer c.windowTimer ++
           (match c.lastE with
            | some e => nat2 e
            | none => [0xFF, 0xFF]) ++ nat2 c.health ++ nat1 c.strikes ++ nat1 c.rejoins ++ nat1 c.mask ++
           [c.live.byte, c.latched.byte] ++ nat1 c.flaps ++ timer c.flapTimer ++ nat1 c.history.length ++ nat2 c.nextSeq.toNat) ++
         (nat1 x.window ++ nat1 x.shift ++ nat2 x.high ++ nat2 x.low ++ nat1 x.strikes ++ nat1 x.rejoinWindows ++
           nat1 x.maskWindows ++ [x.isolateSet.byte, yes x.autoIsolate, yes x.autoRejoin, yes x.autoTest] ++ nat1 x.flapLimit ++
           nat2 x.vf) ++
         (match s.tester.context with
          | some d => if d.segment = i then [1, d.stage.byte, d.cause.byte] ++ nat1 d.attempts else [0, 0, 0, 0]
          | none => [0, 0, 0, 0]) ++ [yes (s.tester.pendingFlags.get i)] ++ capture (s.tester.captures.get i).current ++
         capture (s.tester.captures.get i).previous)) ∧
    (∀ i : SegIx, told (.getFaults tag (segByte i)) 0x2A ([(s.sup i).live.byte, (s.sup i).latched.byte] ++
      nat1 (s.sup i).history.length ++ (s.sup i).history.flatMap FaultRecord.bytes)) ∧
    (∀ n : Byte, n ≠ 0 → n ≠ 255 →
      let noStation : List Byte := [0xFF, 0, 0, 0, 0, 0, 0, 0, 0, 0xFF, 0xFF, 0xFF]
      let noAlias : List Byte := [0xFF, 0xFF, 0xFF, 0xFF, 0xFF, 0xFF, 0xFF]
      let e := s.table.entry n
      let flag : Byte := yes e.violation
      let on (x : Side) : Bool := (s.port x.segment).state = .forwarding
      (n = s.table.gateway → told (.getStation tag n) 0x40 ([0x03] ++ noStation ++ noAlias ++ [flag, 0xFF, 0x00, 0x01])) ∧
      (n ≠ s.table.gateway → (∃ g ∈ s.delivery.groups, g.2.service = n) →
        told (.getStation tag n) 0x40 ([0x04] ++ noStation ++ noAlias ++ [flag, 0xFF, 0x00, 0x01])) ∧
      (n ≠ s.table.gateway → (∀ g ∈ s.delivery.groups, g.2.service ≠ n) → ∀ a, s.aliasOf n = some a →
        told (.getStation tag n) 0x40 ([0x05] ++ noStation ++ nat1 a.1 ++ macBytes a.2.mac ++
          [flag, yes s.uplink.up, yes s.uplink.up, if s.uplink.up then 0xFF else 0x04])) ∧
      (¬ s.claimed n → e.known = .empty →
        told (.getStation tag n) 0x40 ([0x07] ++ noStation ++ noAlias ++ [flag, 0x00, 0x00, 0x01])) ∧
      (¬ s.claimed n → ∀ x state, (e.known = .active x ∧ state = (0x02 : Byte)) ∨ (e.known = .quiet x ∧ state = 0x03) →
        told (.getStation tag n) 0x40 ([0x06, state] ++ [1] ++ place x ++ [0, 0, 0, 0] ++
          [yes e.pinned, if e.pinned then segByte x.segment else 0xFF, yes e.held] ++ noAlias ++
          [flag, yes (on x), yes (on x), if on x then 0xFF else 0x02])) ∧
      (¬ s.claimed n → ∀ x y, e.known = .duplicate x y →
        told (.getStation tag n) 0x40 ([0x06, 0x04] ++ [1] ++ place x ++ [1] ++ place y ++
          [yes e.pinned, if e.pinned then segByte x.segment else 0xFF, yes e.held] ++ noAlias ++
          [flag, yes (on x || on y), 0x00, 0x03]))) ∧
    (∀ n : Byte, n ≠ 0 → n ≠ 255 → ∃ known, known = s.table.entries.filter (fun e => n.toNat ≤ e.1 && e.2.isKnown) ∧
      (s.table.wf = true → known.Pairwise fun a b => a.1 < b.1) ∧
      exec (.listStations tag n) s = .next { s with
        mgmt := s.mgmt.answered (replyMsg 0x41 tag .ok (nat1 (min 32 known.length) ++ (known.take 32).flatMap stationRow ++
          nat1 (if h : 32 < known.length then known[31].1 + 1 else 0))) }) ∧
    (∀ n : Byte, n = 0 ∨ n = 255 →
      exec (.getStation tag n) s = .next { s with mgmt := s.mgmt.answered (replyMsg 0x40 tag .range []) } ∧
      exec (.listStations tag n) s = .next { s with mgmt := s.mgmt.answered (replyMsg 0x41 tag .range []) }) ∧
    (∀ p : Byte, 15 < p.toNat → exec (.getPrinter tag p) s = .next { s with
      mgmt := s.mgmt.answered (replyMsg 0x86 tag .range []) }) ∧
    (∀ p : Byte, p.toNat ≤ 15 → s.printer p.toNat = none → told (.getPrinter tag p) 0x86 [0x01]) ∧
    (∀ (p : Byte) (e : Printer), p.toNat ≤ 15 → s.printer p.toNat = some e → ∃ groups : Byte,
      (∀ g, g < 8 → (groups.getLsbD g = true ↔ ∃ grp ∈ s.delivery.groups, grp.1 = g ∧ p.toNat ∈ grp.2.members)) ∧
      told (.getPrinter tag p) 0x86
        (let works : Bool := match s.headJob e with
           | some j => j.delivery = .printing || j.delivery = .ending
           | none => false
         let jobs := (e.queue.filterMap s.job).take 16
         [e.station] ++ nat2 e.nominalRate ++ nat2 e.blockTimeout ++ nat2 e.endTimeout ++ [yes e.stopAfter] ++ nat2 e.rate ++
           nat1 e.nextSeq.toNat ++
           [if s.unreachable e.station ≠ none then 0x02 else if works then 0x04 else if e.pause = PauseSet.clear then 0x05 else 0x03,
             match s.unreachable e.station with
             | some .notHeard => 0x01
             | some .segmentDown => 0x02
             | some .conflict => 0x03
             | some .uplinkDown => 0x04
             | none => 0xFF, e.pause.byte, groups] ++
           nat1 e.queue.length ++ nat1 jobs.length ++
           jobs.flatMap (fun j => nat2 j.number.toNat ++ [yes j.urgent, j.delivery.byte] ++ nat4 j.received ++ nat4 j.delivered) ++
           (match e.flight with
            | some f => [1] ++ nat2 f.job.toNat ++ nat1 f.seq.toNat ++ nat2 f.count ++ [if f.outstanding then 0x01 else 0x02]
            | none => [0, 0, 0, 0, 0, 0, 0]) ++ nat1 e.resends ++ timer e.blockTimer ++ timer e.retryTimer ++ timer e.endTimer)) ∧
    exec (.getJob tag 0) s = .next { s with mgmt := s.mgmt.answered (replyMsg 0x87 tag .range []) } ∧
    (∀ n : Half, n ≠ 0 → s.job n = none → exec (.getJob tag n) s = .next { s with
      mgmt := s.mgmt.answered (replyMsg 0x87 tag .notFound []) }) ∧
    (∀ (n : Half) (j : Job), n ≠ 0 → s.job n = some j → told (.getJob tag n) 0x87
      (nat2 n.toNat ++ [j.source, j.origin.byte] ++ (match j.group with
        | some g => nat1 g
        | none => [0xFF]) ++ [yes j.urgent, if j.isOpen then 0x01 else 0x02] ++ nat1 j.lastSeq.toNat ++ [yes j.lastFirst] ++
        nat1 j.expected.toNat ++ nat4 j.received ++ nat2 j.chain.length ++ nat4 j.lastActivity.toNat ++ timer j.idleTimer ++
        [match j.pendingOutcome with
         | some o => o.byte
         | none => 0xFF, j.delivery.byte] ++ nat4 j.delivered ++ (match j.printer with
        | some p => nat1 p
        | none => [0xFF]) ++ nat1 j.printerSeq.toNat ++ [yes j.blockOffered] ++ nat4 j.activeTime)) ∧
    exec (.listJobs tag 0) s = .next { s with mgmt := s.mgmt.answered (replyMsg 0x89 tag .range []) } ∧
    ∀ n : Half, n ≠ 0 → ∃ jobs : List Job, jobs.Perm (s.intake.jobs.filter fun j => n.toNat ≤ j.number.toNat) ∧
      jobs.Pairwise (fun j k => j.number.toNat ≤ k.number.toNat) ∧
      exec (.listJobs tag n) s = .next { s with
        mgmt := s.mgmt.answered (replyMsg 0x89 tag .ok (s.intake.counters.bytes ++ nat1 (min 16 jobs.length) ++
          (jobs.take 16).flatMap Job.row ++ nat2 (if h : 16 < jobs.length then jobs[15].number.toNat + 1 else 0))) }

/-- GET_PORT_COUNTERS (R17, R40, R115, R122): a segment's 18 counters, or the uplink's 17, in the rules' order; with the clear
option every one of them is 0 once it stands in the reply, and nothing else changes. SET_UPLINK (R116): the EtherType and the
broadcast setting are taken together; an EtherType below 0x0600, or a broadcast byte with no meaning, is refused with RANGE. -/
def Obligations.CountersAndUplinkSettings : Prop :=
  ∀ (tag : Byte) (s : State), s.takes tag →
    (∀ (i : SegIx) (clear : Bool), exec (.getPortCounters tag (segByte i) (if clear then 1 else 0)) s = .next { s with
      ports := if clear then s.ports.set i { s.port i with
          rx := ⟨0, 0, 0, 0, 0, 0⟩
          tx := ⟨0, 0, 0, 0⟩
          fwd := ⟨0, 0, 0, 0, 0, 0, 0, 0⟩ }
        else s.ports
      mgmt := s.mgmt.answered (replyMsg 0x61 tag .ok ([(s.port i).rx.framesIn, (s.port i).rx.marginal, (s.port i).rx.corrupt,
        (s.port i).rx.collisions, (s.port i).rx.unsynced, (s.port i).rx.jabber, (s.port i).tx.framesOut, (s.port i).tx.excess,
        (s.port i).tx.flushed, (s.port i).tx.serviceFull, (s.port i).fwd.filtered, (s.port i).fwd.unreachable,
        (s.port i).fwd.unwanted, (s.port i).fwd.directPrint, (s.port i).fwd.noBuffer, (s.port i).fwd.tailDrop,
        (s.port i).fwd.addressViolation, (s.port i).fwd.answered].flatMap counterBytes)) }) ∧
    (∀ clear : Bool, exec (.getPortCounters tag 4 (if clear then 1 else 0)) s = .next { s with
      uplink := if clear then { s.uplink with
          counters := ⟨0, 0, 0, 0, 0, 0, 0, 0, 0⟩
          fwd := ⟨0, 0, 0, 0, 0, 0, 0, 0⟩ }
        else s.uplink
      mgmt := s.mgmt.answered (replyMsg 0x61 tag .ok ([s.uplink.counters.framesIn, s.uplink.counters.framesOut,
        s.uplink.counters.corrupt, s.uplink.counters.foreign, s.uplink.counters.badTunnel, s.uplink.counters.unknownSender,
        s.uplink.counters.sendFailures, s.uplink.counters.flushed, s.uplink.counters.serviceFull, s.uplink.fwd.filtered,
        s.uplink.fwd.unreachable, s.uplink.fwd.unwanted, s.uplink.fwd.directPrint, s.uplink.fwd.noBuffer, s.uplink.fwd.tailDrop,
        s.uplink.fwd.addressViolation, s.uplink.fwd.answered].flatMap counterBytes)) }) ∧
    (∀ port clear : Byte, 4 < port.toNat ∨ 1 < clear.toNat → exec (.getPortCounters tag port clear) s = .next { s with
      mgmt := s.mgmt.answered (replyMsg 0x61 tag .range []) }) ∧
    (∀ (etherType : Half) (on : Bool), 0x0600 ≤ etherType.toNat →
      exec (.setUplink tag etherType (if on then 1 else 0)) s = .next { s with
        uplink := { s.uplink with etherType := etherType, broadcast := on }
        mgmt := s.mgmt.answered (replyMsg 0x60 tag .ok []) }) ∧
    ∀ (etherType : Half) (broadcast : Byte), etherType.toNat < 0x0600 ∨ 1 < broadcast.toNat →
      exec (.setUplink tag etherType broadcast) s = .next { s with mgmt := s.mgmt.answered (replyMsg 0x60 tag .range []) }

/-- SET_AGING (R91), SET_POOL (R129) and SET_JOB_IDLE (R146): the settings are clamped, taken and given back, and nothing else
changes: no timer that runs, no page held. GET_POOL (R131): the pool's figures, and the lowest free figure set to the free count
after the reply is formed. That the number of stored frames takes two bytes is the model's choice (log entry 21). -/
def Obligations.ClampedSettingsAndPool : Prop :=
  ∀ (tag : Byte) (s : State), s.takes tag →
    (∀ unit hold : Byte, exec (.setAging tag unit hold) s = .next { s with
      table := { s.table with agingUnit := max 1 unit.toNat, moveHold := max 1 (min 9 hold.toNat) }
      mgmt := s.mgmt.answered (replyMsg 0x45 tag .ok (nat1 (max 1 unit.toNat) ++ nat1 (max 1 (min 9 hold.toNat)))) }) ∧
    (∀ reserve quota : Half, exec (.setPool tag reserve quota) s = .next { s with
      pool := { s.pool with
        reserve := min reserve.toNat (min 896 (1024 - s.jobHeld))
        quota := max 4 (min 512 quota.toNat) }
      mgmt := s.mgmt.answered (replyMsg 0x70 tag .ok
        (nat2 (min reserve.toNat (min 896 (1024 - s.jobHeld))) ++ nat2 (max 4 (min 512 quota.toNat)))) }) ∧
    (∀ time : Half, exec (.setJobIdle tag time) s = .next { s with
      intake := { s.intake with idleTime := max 5 (min 600 time.toNat) }
      mgmt := s.mgmt.answered (replyMsg 0x8A tag .ok (nat2 (max 5 (min 600 time.toNat)))) }) ∧
    exec (.getPool tag) s = .next { s with
      pool := { s.pool with lowestFree := s.freePages }
      mgmt := s.mgmt.answered (replyMsg 0x71 tag .ok (nat2 s.freePages ++ nat2 s.frameHeld ++ nat2 s.jobHeld ++
        nat2 s.pool.frames.length ++ nat2 s.pool.reserve ++ nat2 s.pool.quota ++ nat2 s.pool.lowestFree ++
        counterBytes s.pool.reserveRefusals ++ counterBytes s.pool.quotaRefusals)) }

/-! ## Addressing requests -/

/-- SET_GATEWAY_NUMBER (R101, R104): an unclaimed number that no printer entry names becomes the gateway number, a station change
for the old and the new one; the number already held is answered OK and nothing changes; a claimed one, a known station's or a
printer's is refused with CONFLICT, 0 and 255 with RANGE. SET_PROXY_BASE (R102): a locally administered base, not a group address,
with a last byte of 0, is taken unless an alias's MAC lies under it (CONFLICT); another is refused with RANGE. How the change waits
for the blocks it is passed to is the model's choice (log entry 5). -/
def Obligations.GatewayAndProxyBase : Prop :=
  ∀ (tag : Byte) (s : State), s.takes tag →
    (∀ n : Byte, n ≠ 0 → n ≠ 255 → s.unclaimed n → ¬ s.named n → exec (.setGatewayNumber tag n) s = .next { s with
      table := { s.table with gateway := n }
      raised := s.raised ++ [.stationChange s.table.gateway, .stationChange n]
      mgmt := s.mgmt.answered (replyMsg 0x46 tag .ok []) }) ∧
    (∀ n : Byte, n ≠ 0 → n ≠ 255 → n = s.table.gateway → exec (.setGatewayNumber tag n) s = .next { s with
      mgmt := s.mgmt.answered (replyMsg 0x46 tag .ok []) }) ∧
    (∀ n : Byte, n ≠ 0 → n ≠ 255 → n ≠ s.table.gateway → ¬ s.unclaimed n ∨ s.named n →
      exec (.setGatewayNumber tag n) s = .next { s with mgmt := s.mgmt.answered (replyMsg 0x46 tag .conflict []) }) ∧
    (∀ n : Byte, n = 0 ∨ n = 255 → exec (.setGatewayNumber tag n) s = .next { s with
      mgmt := s.mgmt.answered (replyMsg 0x46 tag .range []) }) ∧
    (∀ m : Mac, m.getLsbD 41 = true → m.getLsbD 40 = false → m.extractLsb' 0 8 = 0 →
      (∀ a ∈ s.table.aliases, a.2.mac.extractLsb' 8 40 ≠ m.extractLsb' 8 40) →
      exec (.setProxyBase tag m) s = .next { s with
        table := { s.table with proxyBase := m }
        mgmt := s.mgmt.answered (replyMsg 0x49 tag .ok []) }) ∧
    (∀ m : Mac, m.getLsbD 41 = false ∨ m.getLsbD 40 = true ∨ m.extractLsb' 0 8 ≠ 0 → exec (.setProxyBase tag m) s = .next { s with
      mgmt := s.mgmt.answered (replyMsg 0x49 tag .range []) }) ∧
    ∀ m : Mac, m.getLsbD 41 = true → m.getLsbD 40 = false → m.extractLsb' 0 8 = 0 →
      (∃ a ∈ s.table.aliases, a.2.mac.extractLsb' 8 40 = m.extractLsb' 8 40) →
      exec (.setProxyBase tag m) s = .next { s with mgmt := s.mgmt.answered (replyMsg 0x49 tag .conflict []) }

/-- SET_ALIAS (R98): an index below 32, a MAC that is no group address, no other alias's and no proxy address, and a number
unclaimed or already this entry's own: the entry is set, a station change for the number and, when the entry gives another one up,
for that one first. RANGE and CONFLICT otherwise. CLEAR_ALIAS (R99): an entry in use is cleared, a station change for its number; an
unused one is NOT_FOUND, an index above 31 RANGE. Stated for a part whose tables and claims are in order (R85), as
StationTableKeepsItsForm says they stay. How the change waits for the blocks it is passed to is the model's choice (log entry 5). -/
def Obligations.Aliases : Prop :=
  ∀ (index tag : Byte) (s : State), s.takes tag → s.claimsWf = true → s.table.wf = true →
    (∀ (n : Byte) (m : Mac), 31 < index.toNat ∨ m.getLsbD 40 = true ∨ n = 0 ∨ n = 255 →
      exec (.setAlias tag index n m) s = .next { s with mgmt := s.mgmt.answered (replyMsg 0x47 tag .range []) }) ∧
    (∀ (n : Byte) (m : Mac), index.toNat < 32 → m.getLsbD 40 = false → n ≠ 0 → n ≠ 255 →
      ((tableGet s.table.aliases index.toNat).map AliasEntry.number ≠ some n ∧ ¬ s.unclaimed n) ∨
        (∃ a ∈ s.table.aliases, a.1 ≠ index.toNat ∧ a.2.mac = m) ∨ m.extractLsb' 8 40 = s.table.proxyBase.extractLsb' 8 40 →
      exec (.setAlias tag index n m) s = .next { s with mgmt := s.mgmt.answered (replyMsg 0x47 tag .conflict []) }) ∧
    (∀ (n : Byte) (m : Mac), index.toNat < 32 → m.getLsbD 40 = false → n ≠ 0 → n ≠ 255 →
      (tableGet s.table.aliases index.toNat).map AliasEntry.number = some n ∨ s.unclaimed n →
      (∀ a ∈ s.table.aliases, a.1 ≠ index.toNat → a.2.mac ≠ m) → m.extractLsb' 8 40 ≠ s.table.proxyBase.extractLsb' 8 40 →
      exec (.setAlias tag index n m) s = .next { s with
        table := { s.table with aliases := tablePut s.table.aliases index.toNat ⟨n, m⟩ }
        raised := s.raised ++
          (match tableGet s.table.aliases index.toNat with
            | some old => if old.number = n then [] else [.stationChange old.number]
            | none => []) ++ [.stationChange n]
        mgmt := s.mgmt.answered (replyMsg 0x47 tag .ok []) }) ∧
    exec (.clearAlias tag index) s =
      if 31 < index.toNat then .next { s with mgmt := s.mgmt.answered (replyMsg 0x48 tag .range []) }
      else match tableGet s.table.aliases index.toNat with
        | none => .next { s with mgmt := s.mgmt.answered (replyMsg 0x48 tag .notFound []) }
        | some old => .next { s with
            table := { s.table with aliases := s.table.aliases.filter fun a => a.1 ≠ index.toNat }
            raised := s.raised ++ [.stationChange old.number]
            mgmt := s.mgmt.answered (replyMsg 0x48 tag .ok []) }

/-- PIN (R94): a station's entry, or an unclaimed number's, is pinned to the segment. An EMPTY one becomes QUIET there with silence
10 and sync index 0, held at once when a printer names the number (R97); one on that segment keeps its state; one on another moves
there, QUIET with silence 10, with STATION_MOVED; a DUPLICATE one keeps the side it has there, ACTIVE below a silence of 2 and QUIET
from it on, or is QUIET with silence 10 and the first side's sync index, with CONFLICT_CLEARED. A claimed number is refused with
CONFLICT, a segment above 3 and the numbers 0 and 255 with RANGE. No other entry changes, and Printer Delivery is told. FORGET
(R96): a station's entry that is not held becomes EMPTY and not pinned, its violation flag kept (R84), with STATION_DEPARTED and a
station change; a held one is refused with STATE, an EMPTY one with NOT_FOUND, 0 and 255 with RANGE. How a change waits for the
blocks it is passed to is the model's choice (log entry 5). -/
def Obligations.PinAndForget : Prop :=
  (∀ (n tag : Byte) (s : State), s.takes tag →
    let result (i : SegIx) (known : Known) (held : Bool) (noted : Mgmt) : Prop :=
      ∃ t, exec (.pin tag n (segByte i)) s = .next t ∧
        t = { s with table := { s.table with entries := t.table.entries }, raised := t.raised, mgmt := t.mgmt } ∧
        t.table.entry n = { s.table.entry n with known := known, pinned := true, held := held } ∧
        (∀ m, m ≠ n → t.table.entry m = s.table.entry m) ∧ t.raised = s.raised ++ [.stationChange n] ∧
        t.mgmt = noted.answered (replyMsg 0x42 tag .ok [])
    (n = 0 ∨ n = 255 → ∀ seg, exec (.pin tag n seg) s = .next { s with mgmt := s.mgmt.answered (replyMsg 0x42 tag .range []) }) ∧
    (n ≠ 0 → n ≠ 255 → ∀ seg : Byte, 3 < seg.toNat → exec (.pin tag n seg) s = .next { s with
      mgmt := s.mgmt.answered (replyMsg 0x42 tag .range []) }) ∧
    (n ≠ 0 → n ≠ 255 → s.claimed n → ∀ i : SegIx, exec (.pin tag n (segByte i)) s = .next { s with
      mgmt := s.mgmt.answered (replyMsg 0x42 tag .conflict []) }) ∧
    (n ≠ 0 → n ≠ 255 → ¬ s.claimed n → ∀ i : SegIx,
      ((s.table.entry n).known = .empty → ∀ held : Bool, (held = true ↔ s.named n) → result i (.quiet ⟨i, 10, 0⟩) held s.mgmt) ∧
      (∀ a, (s.table.entry n).known = .active a ∨ (s.table.entry n).known = .quiet a → a.segment = i →
        result i (s.table.entry n).known (s.table.entry n).held s.mgmt) ∧
      (∀ a, (s.table.entry n).known = .active a ∨ (s.table.entry n).known = .quiet a → a.segment ≠ i →
        result i (.quiet ⟨i, 10, a.sync⟩) (s.table.entry n).held (s.mgmt.noted (.stationMoved n a.segment i true))) ∧
      (∀ a b c, (s.table.entry n).known = .duplicate a b → (a.segment = i ∧ c = a) ∨ (a.segment ≠ i ∧ b.segment = i ∧ c = b) →
        result i (if c.silence < 2 then .active c else .quiet c) (s.table.entry n).held
          (s.mgmt.noted (.conflictCleared n i true))) ∧
      ∀ a b, (s.table.entry n).known = .duplicate a b → a.segment ≠ i → b.segment ≠ i →
        result i (.quiet ⟨i, 10, a.sync⟩) (s.table.entry n).held (s.mgmt.noted (.conflictCleared n i true)))) ∧
  ∀ (n tag : Byte) (s : State), s.takes tag →
    (n = 0 ∨ n = 255 → exec (.forget tag n) s = .next { s with mgmt := s.mgmt.answered (replyMsg 0x44 tag .range []) }) ∧
    (n ≠ 0 → n ≠ 255 → (s.table.entry n).known = .empty →
      exec (.forget tag n) s = .next { s with mgmt := s.mgmt.answered (replyMsg 0x44 tag .notFound []) }) ∧
    (n ≠ 0 → n ≠ 255 → (s.table.entry n).known ≠ .empty → (s.table.entry n).held = true →
      exec (.forget tag n) s = .next { s with mgmt := s.mgmt.answered (replyMsg 0x44 tag .state []) }) ∧
    ∀ (a : Side) (second : Option SegIx), n ≠ 0 → n ≠ 255 → (s.table.entry n).held = false →
      ((second = none ∧ ((s.table.entry n).known = .active a ∨ (s.table.entry n).known = .quiet a)) ∨
        ∃ b, (s.table.entry n).known = .duplicate a b ∧ second = some b.segment) →
      ∃ t, exec (.forget tag n) s = .next t ∧
        t = { s with table := { s.table with entries := t.table.entries }, raised := s.raised ++ [.stationChange n], mgmt := t.mgmt } ∧
        t.table.entry n = ⟨.empty, false, false, (s.table.entry n).violation⟩ ∧
        (∀ m, m ≠ n → t.table.entry m = s.table.entry m) ∧
        t.mgmt = (s.mgmt.noted (.stationDeparted n a.segment second true)).answered (replyMsg 0x44 tag .ok [])

/-- UNPIN (R95): a station's entry is no longer pinned and keeps its state and sides, and nothing else changes; an EMPTY entry is
NOT_FOUND, and 0 and 255 are refused with RANGE. Whatever has happened since, an unpinned entry at count 10 that is not held becomes
EMPTY when the aging time has run out, unless its station has spoken, which leaves it known. -/
def Obligations.Unpin : Prop :=
  (∀ (n tag : Byte) (s : State), s.takes tag →
    (n = 0 ∨ n = 255 → exec (.unpin tag n) s = .next { s with mgmt := s.mgmt.answered (replyMsg 0x43 tag .range []) }) ∧
    (n ≠ 0 → n ≠ 255 → (s.table.entry n).known = .empty →
      exec (.unpin tag n) s = .next { s with mgmt := s.mgmt.answered (replyMsg 0x43 tag .notFound []) }) ∧
    (n ≠ 0 → n ≠ 255 → (s.table.entry n).known ≠ .empty → ∃ t, exec (.unpin tag n) s = .next t ∧
      t = { s with
        table := { s.table with entries := t.table.entries }
        mgmt := s.mgmt.answered (replyMsg 0x43 tag .ok []) } ∧
      t.table.entry n = { s.table.entry n with pinned := false } ∧ ∀ m, m ≠ n → t.table.entry m = s.table.entry m)) ∧
  ∀ (n : Byte) (a : Side) (s : State), n ≠ 0 → n ≠ 255 → s.table.wf = true → s.table.agingTimer ≠ .stopped →
    (s.table.entry n).pinned = false → (s.table.entry n).held = false → ∃ t, exec .agingTimerExpiry s = .next t ∧
      ((s.table.entry n).known = .quiet a → a.silence = 10 → (t.table.entry n).known = .empty) ∧
      ((s.table.entry n).known = .active a → a.silence = 0 → (t.table.entry n).known = .active { a with silence := 1 })


/-! ## Printing requests -/

/-- SET_GROUP (R152, R154, R166): valid settings, members in use and a service number that is unclaimed or this group's own, named
by no printer, and kept while jobs have the group: the group is defined, a changed or new service number is a station change (the
old number first), jobs may then be bound; nothing of lines, tables or pool changes. With no job of the group and no member left
out, the group and the answer are all that changes. Members left out give up the group's QUEUED jobs and are evaluated (R151, R164); a
job that then waits, when it is the only one, is bound (R153 to R156); when none can be bound, that is all. Otherwise RANGE, NOT_FOUND,
CONFLICT or STATE, judged in that order, and nothing changes. How the change waits for the blocks it is passed to, and the order of the
members left out, are the model's choice (log entries 5 and 46); the one notice of an evaluation is inferred (log entry 16). -/
def Obligations.SetGroup : Prop :=
  ∀ (tag group service mode threshold : Byte) (members : List Byte) (rebind : Option Byte) (s : State), s.takes tag →
    s.delivery.wf = true → s.claimsWf = true →
    let c : Instr := .setGroup tag group service mode threshold members rebind
    let ranged : Prop := group.toNat < 8 ∧ service ≠ 0 ∧ service ≠ 255 ∧ (mode = 1 ∨ mode = 2) ∧ threshold.toNat ≤ 7 ∧
      1 ≤ members.length ∧ members.length ≤ 8 ∧ (∀ m ∈ members, m.toNat < 16) ∧ members.Nodup ∧
      (rebind = none ∨ rebind = some 0 ∨ rebind = some 1)
    let found : Prop := ∀ m ∈ members, (s.printer m.toNat).isSome = true
    let own : Prop := (s.group group.toNat).map Group.service = some service
    let free : Prop := (own ∨ s.unclaimed service) ∧ ¬ s.named service
    let kept : Prop := own ∨ s.group group.toNat = none ∨ ∀ j ∈ s.intake.jobs, j.group ≠ some group.toNat
    let refusedWith (st : Status) : Prop := exec c s = .next { s with mgmt := s.mgmt.answered (replyMsg 0x80 tag st []) }
    let groups := tablePut s.delivery.groups group.toNat
      { service := service, balanced := mode = 2, threshold := threshold.toNat, members := members.map BitVec.toNat,
        rebind := rebind ≠ some 0 }
    let raised := s.raised ++ match s.group group.toNat with
      | none => [.stationChange service]
      | some old => if old.service = service then [] else [.stationChange old.service, .stationChange service]
    (¬ ranged → refusedWith .range) ∧ (ranged → ¬ found → refusedWith .notFound) ∧
    (ranged → found → ¬ free → refusedWith .conflict) ∧ (ranged → found → free → ¬ kept → refusedWith .state) ∧
    (ranged → found → free → kept → ∃ t, exec c s = .next t ∧ s.linesKept t ∧ t.pool = s.pool ∧
      t.delivery.groups = groups ∧ t.raised = raised ∧ t.mgmt.reply = some (replyMsg 0x80 tag .ok []) ∧
      ((∀ j ∈ s.intake.jobs, j.group ≠ some group.toNat) →
        (∀ old, s.group group.toNat = some old → ∀ p ∈ old.members, p ∈ members.map BitVec.toNat) →
        t = { s with
          delivery := { s.delivery with groups := groups }
          raised := raised
          mgmt := s.mgmt.answered (replyMsg 0x80 tag .ok []) }) ∧
      ∀ (removed : List Nat) (grp : Group) (u : State),
        removed = (match s.group group.toNat with
          | some old => old.members.filter fun p => !(members.map BitVec.toNat).contains p
          | none => []) →
        grp = ⟨service, mode = 2, threshold.toNat, members.map BitVec.toNat, rebind ≠ some 0⟩ →
        State.givesUpTo { s with delivery := { s.delivery with groups := groups }, raised := raised } group.toNat removed u →
        (u.bindsNothing → t = { u with mgmt := u.mgmt.answered (replyMsg 0x80 tag .ok []) }) ∧
        ∀ j v, u.job j.number = some j → j.delivery = .waiting → j.group = some group.toNat →
          (∀ k ∈ u.intake.jobs, k.delivery = .waiting → k = j) → (u.intake.jobs.map Job.number).Nodup →
          u.bindsTo grp j v → t = { v with mgmt := v.mgmt.answered (replyMsg 0x80 tag .ok []) })

/-- CLEAR_GROUP (R166): the group's WAITING jobs finish FAILED, in their order, each with its JOB_DONE; its bound jobs stay in their
queues without a group; the group is cleared, its number a station change. RANGE above 7, NOT_FOUND for a group not in use. How the
change waits for the blocks it is passed to is the model's choice (log entry 5). -/
def Obligations.ClearGroup : Prop :=
  ∀ (tag group : Byte) (s : State), s.takes tag → s.jobsWf = true →
    (7 < group.toNat → exec (.clearGroup tag group) s = .next { s with mgmt := s.mgmt.answered (replyMsg 0x81 tag .range []) }) ∧
    (group.toNat ≤ 7 → s.group group.toNat = none → exec (.clearGroup tag group) s = .next { s with
      mgmt := s.mgmt.answered (replyMsg 0x81 tag .notFound []) }) ∧
    ∀ g, group.toNat ≤ 7 → s.group group.toNat = some g → ∃ t, exec (.clearGroup tag group) s = .next t ∧ s.linesKept t ∧
      t.pool = s.pool ∧ t.raised = s.raised ++ [.stationChange g.service] ∧ t.draws = s.draws ∧
      t.delivery = { s.delivery with groups := s.delivery.groups.filter fun h => h.1 ≠ group.toNat } ∧
      t.intake = { s.intake with
        jobs := (s.intake.jobs.filter fun j => ¬ (j.group = some group.toNat ∧ j.delivery = .waiting)).map fun j =>
          if j.group = some group.toNat then { j with group := none } else j } ∧
      t.mgmt = Mgmt.answered
        ((s.intake.jobs.filter fun j => j.group = some group.toNat ∧ j.delivery = .waiting).foldl
          (fun m j => m.noted (.jobDone
            { number := j.number, outcome := .failed, source := j.source, origin := j.origin, service := j.service,
              urgent := j.urgent, received := j.received, delivered := j.delivered, printer := none })) s.mgmt)
        (replyMsg 0x81 tag .ok [])

/-- SET_PRINTER (R150, R97, R149, R151): the numbers are clamped, taken and given back. An unused entry is put in use on a station
or alias number no gateway, group or other printer has: a station is held, the first evaluation finds the printer READY or
UNREACHABLE and says so. In an entry in use with the same station the settings are replaced, the rate back at nominal when the
nominal rate changes, its queue as it is: stated with its finding up to date and nothing in its queue for the evaluation to start or
to give up. With another station, its queue empty, the new number is held and the old one released, the sequence is 0 and the
finding noticed where it is new: stated while no job waits. RANGE, CONFLICT, STATE and NOT_FOUND otherwise, judged in that order.
-/
def Obligations.SetPrinter : Prop :=
  ∀ (tag printer station : Byte) (rate block fin : Half) (stop : Byte) (s : State), s.takes tag → s.delivery.wf = true →
    let c : Instr := .setPrinter tag printer station rate block fin stop
    let p := printer.toNat
    let ranged : Prop := p < 16 ∧ station ≠ 0 ∧ station ≠ 255 ∧ stop.toNat ≤ 1
    let taken : Prop := station = s.table.gateway ∨ (∃ g ∈ s.delivery.groups, g.2.service = station) ∨
      ∃ q, (s.printerOf station).map Prod.fst = some q ∧ q ≠ p
    let locked : Prop := ∃ e, s.printer p = some e ∧ e.station ≠ station ∧ e.queue ≠ []
    let holdable : Prop := (s.table.entry station).known ≠ .empty ∨ ∃ a ∈ s.table.aliases, a.2.number = station
    let isSame : Prop := ∃ e, s.printer p = some e ∧ e.station = station
    let refusedWith (st : Status) : Prop := exec c s = .next { s with mgmt := s.mgmt.answered (replyMsg 0x82 tag st []) }
    let rate' := max 50 rate.toNat
    let block' := max 100 (min 5000 block.toNat)
    let fin' := max 1 (min 600 fin.toNat)
    let reply := replyMsg 0x82 tag .ok ([printer, station] ++ nat2 rate' ++ nat2 block' ++ nat2 fin' ++ [stop])
    (¬ ranged → refusedWith .range) ∧ (ranged → taken → refusedWith .conflict) ∧
    (ranged → ¬ taken → locked → refusedWith .state) ∧
    (ranged → ¬ taken → ¬ locked → ¬ isSame → ¬ holdable → refusedWith .notFound) ∧
    (ranged → ¬ taken → s.printer p = none → holdable → ∃ t found, exec c s = .next t ∧
      found = (if s.unreachable station = none then PrinterState.ready else .unreachable) ∧
      t = { s with
        table := { s.table with entries := t.table.entries }
        delivery := { s.delivery with printers := t.delivery.printers }
        mgmt := (s.mgmt.noted (.printerState p station .absent found (s.unreachable station) PauseSet.clear)).answered reply } ∧
      t.table.entry station = { s.table.entry station with
        held := (s.table.entry station).held || s.kindOf station = .station } ∧
      (∀ n, n ≠ station → t.table.entry n = s.table.entry n) ∧
      t.printer p = some
        { station := station, nominalRate := rate', rate := rate', blockTimeout := block', endTimeout := fin', stopAfter := stop = 1,
          pause := PauseSet.clear, queue := [], nextSeq := 0, flight := none, resends := 0, blockTimer := .stopped,
          retryTimer := .stopped, endTimer := .stopped, found := found, foundReason := s.unreachable station,
          foundPause := PauseSet.clear } ∧
      ∀ q, q ≠ p → t.printer q = s.printer q) ∧
    (∀ e found, ranged → ¬ taken → s.printer p = some e → e.station ≠ station → e.queue = [] → holdable →
      (∀ j ∈ s.intake.jobs, j.delivery ≠ .waiting) →
      found = (if s.unreachable station ≠ none then PrinterState.unreachable
        else if e.pause = PauseSet.clear then .ready else .paused) →
      ∃ t, exec c s = .next t ∧ t = { s with
          table := { s.table with entries := t.table.entries }
          delivery := { s.delivery with printers := tablePut s.delivery.printers p { e with
            station := station
            nominalRate := rate'
            rate := if e.nominalRate = rate' then e.rate else rate'
            blockTimeout := block'
            endTimeout := fin'
            stopAfter := stop = 1
            nextSeq := 0
            found := found
            foundReason := s.unreachable station
            foundPause := e.pause } }
          mgmt := Mgmt.answered
            (if found = e.found ∧ s.unreachable station = e.foundReason ∧ e.pause = e.foundPause then s.mgmt
              else s.mgmt.noted (.printerState p station e.found found (s.unreachable station) e.pause)) reply } ∧
        t.table.entry station = { s.table.entry station with
          held := (s.table.entry station).held || s.kindOf station = .station } ∧
        t.table.entry e.station = (if (s.table.entry e.station).known = .empty then s.table.entry e.station
          else { s.table.entry e.station with held := false }) ∧
        ∀ n, n ≠ station → n ≠ e.station → t.table.entry n = s.table.entry n) ∧
    ∀ e, ranged → ¬ taken → s.printer p = some e → e.station = station →
      (let works : Prop := ∃ j, s.headJob e = some j ∧ (j.delivery = .printing ∨ j.delivery = .ending)
       e.queue = [] ∨ (works ∧ s.unreachable station = none) ∨
         (¬ works ∧ (s.unreachable station ≠ none ∨ e.pause ≠ PauseSet.clear) ∧
           ∀ n ∈ e.queue, ∀ j, s.job n = some j → s.rebinds j = false)) →
      e.found = s.printerState e →
      e.foundReason = s.unreachable e.station → e.foundPause = e.pause → exec c s = .next { s with
        delivery := { s.delivery with
          printers := tablePut s.delivery.printers p { e with
            nominalRate := rate'
            rate := if e.nominalRate = rate' then e.rate else rate'
            blockTimeout := block'
            endTimeout := fin'
            stopAfter := stop = 1 } }
        mgmt := s.mgmt.answered reply }

/-- HOLD_PRINTER and RELEASE_PRINTER (R163, R151): HELD is added to the pause reasons, a PRINTING head HELD, or HELD and STOPPED are
taken from them, and the printer is evaluated: a HELD head resumes or a QUEUED one starts (R156), or jobs that rebind leave (R164);
lines, tables and pool stay. On a printer in that condition already nothing changes. With nothing queued, while no job waits, the
pause reasons and what the evaluation finds are all that changes, with PRINTER_STATE when that is new; HOLD under a PRINTING head
that stays leaves it HELD with its block in flight. CLEAR_PRINTER (R165): refused with STATE while the head is PRINTING or ENDING.
Otherwise the entry leaves its groups, its hold and the table, with PRINTER_STATE to ABSENT; its jobs QUEUED, or HELD with nothing
delivered, are back in their groups' wait lists, FAILED without a group (R166), where no other member is to be chosen; a
part-delivered head finishes CANCELLED. A reachable printer that had been offered a block of its HELD head is offered a JOB_ABORT
first (R140), the service queue taken as it stands (R34), and the head's print block is withdrawn after (R159). RANGE above 15,
NOT_FOUND for an entry not in use. The pause reasons of CLEAR_PRINTER's notice, and that FAILED jobs finish in queue order, are the
model's choices (log entry 39); that one evaluation passes one notice (log entry 16) is inferred. -/
def Obligations.HoldReleaseAndClearPrinter : Prop :=
  ∀ (tag printer : Byte) (s : State), s.takes tag →
    let p := printer.toNat
    (∀ st, (15 < p ∧ st = Status.range) ∨ (p ≤ 15 ∧ s.printer p = none ∧ st = .notFound) →
      exec (.clearPrinter tag printer) s = .next { s with mgmt := s.mgmt.answered (replyMsg 0x83 tag st []) } ∧
      exec (.holdPrinter tag printer) s = .next { s with mgmt := s.mgmt.answered (replyMsg 0x84 tag st []) } ∧
      exec (.releasePrinter tag printer) s = .next { s with mgmt := s.mgmt.answered (replyMsg 0x85 tag st []) }) ∧
    ∀ e, p ≤ 15 → s.printer p = some e →
      (∀ (c : Instr) (pause : PauseSet) (reply : Msg) (jobs : List Job),
        (c = .holdPrinter tag printer ∧ pause = { e.pause with held := true } ∧ reply = replyMsg 0x84 tag .ok [] ∧
            jobs = s.intake.jobs.map fun k =>
              if e.queue.head? = some k.number ∧ k.delivery = .printing then { k with delivery := .held } else k) ∨
          (c = .releasePrinter tag printer ∧ pause = { e.pause with held := false, stopped := false } ∧
            reply = replyMsg 0x85 tag .ok [] ∧ jobs = s.intake.jobs) →
        (∀ t, pause ≠ e.pause → (s.printingSet p { e with pause := pause } jobs s.mgmt).evaluatesTo p { e with pause := pause } t →
          t.bindsNothing → exec c s = .next { t with mgmt := t.mgmt.answered reply }) ∧
        (∃ t e', exec c s = .next t ∧ s.linesKept t ∧ t.pool = s.pool ∧ t.delivery.groups = s.delivery.groups ∧
          t.printer p = some e' ∧ e'.pause.held = pause.held ∧ t.mgmt.reply = some reply) ∧
        (pause = e.pause → exec c s = .next { s with mgmt := s.mgmt.answered reply }) ∧
        (pause ≠ e.pause → e.queue = [] → (∀ j ∈ s.intake.jobs, j.delivery ≠ .waiting) →
          let found := if s.unreachable e.station ≠ none then PrinterState.unreachable
            else if pause = PauseSet.clear then .ready else .paused
          exec c s = .next { s with
            delivery := { s.delivery with
              printers := tablePut s.delivery.printers p { e with
                pause := pause
                found := found
                foundReason := s.unreachable e.station
                foundPause := pause } }
            mgmt := Mgmt.answered
              (if found = e.found ∧ s.unreachable e.station = e.foundReason ∧ pause = e.foundPause then s.mgmt
                else s.mgmt.noted (.printerState p e.station e.found found (s.unreachable e.station) pause)) reply })) ∧
      (∀ j, e.pause.held = false → e.queue = [j.number] → s.job j.number = some j → j.delivery = .printing →
        0 < j.delivered ∨ s.rebinds j = false → s.unreachable e.station = none →
        ∃ pause : PauseSet, pause = { e.pause with held := true } ∧ exec (.holdPrinter tag printer) s = .next { s with
          intake := { s.intake with jobs := s.intake.jobs.map fun k => if k.number = j.number then { j with delivery := .held } else k }
          delivery := { s.delivery with printers := tablePut s.delivery.printers p { e with
            pause := pause
            found := .paused
            foundReason := none
            foundPause := pause } }
          mgmt := Mgmt.answered
            (if e.found = .paused ∧ e.foundReason = none ∧ e.foundPause = pause then s.mgmt
              else s.mgmt.noted (.printerState p e.station e.found .paused none pause)) (replyMsg 0x84 tag .ok []) }) ∧
      ((∃ j, s.headJob e = some j ∧ (j.delivery = .printing ∨ j.delivery = .ending)) →
        exec (.clearPrinter tag printer) s = .next { s with mgmt := s.mgmt.answered (replyMsg 0x83 tag .state []) }) ∧
      ((∀ j, s.headJob e = some j → j.delivery ≠ .printing ∧ j.delivery ≠ .ending) →
        (∃ t, exec (.clearPrinter tag printer) s = .next t ∧ s.linesKept { t with table := s.table } ∧ t.pool = s.pool ∧
          t.mgmt.reply = some (replyMsg 0x83 tag .ok [])) ∧
        (let leaves (k : Job) : Bool := decide (k.delivery = .queued) || decide (k.delivered = 0)
         let backs := e.queue.filter fun n => (s.job n).any fun k => leaves k && k.group.isSome
         let failed := (e.queue.filterMap s.job).filter fun k => leaves k && k.group.isNone
         let cut := (e.queue.filterMap s.job).filter fun k => !leaves k
         let report (outcome : JobOutcome) (m : Mgmt) (k : Job) : Mgmt := m.noted (.jobDone
           ⟨k.number, outcome, k.source, k.origin, k.service, k.urgent, k.received, k.delivered, some (p, e.station)⟩)
         let aborts : Prop := s.unreachable e.station = none ∧
           ∃ j, s.headJob e = some j ∧ j.delivery = .held ∧ (0 < j.delivered ∨ j.blockOffered = true)
         let pages := match s.headJob e with
           | some j => if j.delivery = .held
             then (if j.delivered = 0 ∧ j.group.isSome = true then j.chain.take 1 else j.chain) else []
           | none => []
         ∀ u, s.queueWf p e →
           (aborts ∧ s.offeredTo e.station .nothing ⟨e.station, s.table.gateway, 0x13, 0, 0⟩ u) ∨ (¬ aborts ∧ u = s) →
           (∀ n ∈ backs, ∀ k g grp, s.job n = some k → k.group = some g → s.group g = some grp →
             ∀ m ∈ grp.members, m ≠ p → ∀ d, s.able m d → grp.balanced = false ∧ d.queue ≠ []) →
           ∃ t, exec (.clearPrinter tag printer) s = .next t ∧
             t = { u.withdrawn pages with
               table := { s.table with entries := t.table.entries }
               intake := { s.intake with
                 jobs := (s.intake.jobs.filter fun k => !(failed ++ cut).any fun j => j.number = k.number).map fun k =>
                   if backs.contains k.number then k.returned else k }
               delivery :=
                 { printers := s.delivery.printers.filter fun q => q.1 ≠ p
                   groups := s.delivery.groups.map fun g => (g.1, { g.2 with members := g.2.members.filter (· ≠ p) }) }
               mgmt := Mgmt.answered ((cut.foldl (report .cancelled) (failed.foldl (report .failed) s.mgmt)).noted
                 (.printerState p e.station e.found .absent none e.pause)) (replyMsg 0x83 tag .ok []) } ∧
             (∀ n, n ≠ e.station → t.table.entry n = s.table.entry n) ∧
             t.table.entry e.station = if (s.table.entry e.station).known = .empty then s.table.entry e.station
               else { s.table.entry e.station with held := false })) ∧
      (let cleared (t : State) : Prop := exec (.clearPrinter tag printer) s = .next t ∧ s.linesKept { t with table := s.table } ∧
         t.pool = s.pool ∧ t.raised = s.raised ∧ t.draws = s.draws ∧
         t.table = { s.table with entries := t.table.entries } ∧
         t.delivery =
           { printers := s.delivery.printers.filter fun q => q.1 ≠ p
             groups := s.delivery.groups.map fun g => (g.1, { g.2 with members := g.2.members.filter (· ≠ p) }) } ∧
         (∀ n, n ≠ e.station → t.table.entry n = s.table.entry n) ∧
         t.table.entry e.station = if (s.table.entry e.station).known = .empty then s.table.entry e.station
           else { s.table.entry e.station with held := false }
       let gone : Notice := .printerState p e.station e.found .absent none e.pause
       let aborted (t : State) (pages : List Nat) : Prop :=
         (∀ i set room, s.routeTo e.station = some (.segment i set) → (s.port i).state = .forwarding →
           room = decide ((s.port i).service.length < 8) →
           (t.port i).service = ((s.port i).service ++
             if room = true then [QEntry.mk .nothing ⟨e.station, s.table.gateway, 0x13, 0, 0⟩ set] else []).filter
               (fun x => ! pages.any fun page => x.isPage page) ∧
           (t.port i).tx.serviceFull = (s.port i).tx.serviceFull + if room then 0 else 1) ∧
         (∀ mac room, s.routeTo e.station = some (.uplink mac) → s.uplink.up = true →
           room = decide (s.uplink.service.length < 8) →
           t.uplink.service = (s.uplink.service ++
             if room = true then [QEntry.mk .nothing ⟨e.station, s.table.gateway, 0x13, 0, 0⟩ mac] else []).filter
               (fun x => ! pages.any fun page => x.isPage page) ∧
           t.uplink.counters.serviceFull = s.uplink.counters.serviceFull + if room then 0 else 1)
       (e.queue = [] → ∃ t, cleared t ∧ t.ports = s.ports ∧ t.uplink = s.uplink ∧ t.intake = s.intake ∧
         t.mgmt = (s.mgmt.noted gone).answered (replyMsg 0x83 tag .ok [])) ∧
       ∀ j, e.queue = [j.number] → s.job j.number = some j → s.jobsWf = true → j.printer = some p →
         (∀ g grp, j.delivery = .queued ∨ (j.delivery = .held ∧ j.delivered = 0) → j.group = some g → s.group g = some grp →
           (∀ m ∈ grp.members, m ≠ p → ∀ e', s.printer m = some e' → s.unreachable e'.station ≠ none ∨ e'.pause ≠ PauseSet.clear) →
           ∃ t, cleared t ∧
             t.intake = { s.intake with jobs := s.intake.jobs.map fun k => if k.number = j.number then { j with
               delivery := .waiting
               printer := none
               blockOffered := false } else k } ∧
             t.mgmt = (s.mgmt.noted gone).answered (replyMsg 0x83 tag .ok []) ∧
             (j.delivery = .held → j.blockOffered = true → s.unreachable e.station = none → aborted t j.chain.head?.toList)) ∧
         (j.delivery = .held → 0 < j.delivered → ∃ t, cleared t ∧
           t.intake = { s.intake with jobs := s.intake.jobs.filter fun k => k.number ≠ j.number } ∧
           t.mgmt = ((s.mgmt.noted (.jobDone
             { number := j.number, outcome := .cancelled, source := j.source, origin := j.origin, service := j.service,
               urgent := j.urgent, received := j.received, delivered := j.delivered, printer := some (p, e.station) })).noted
             gone).answered (replyMsg 0x83 tag .ok []) ∧
           (s.unreachable e.station = none → aborted t j.chain)))

/-- CANCEL_JOB (R142) and IDLE_TIMER_EXPIRY (R141) end a job by R140, CANCELLED or ABANDONED. WAITING and QUEUED, or HELD on a
printer that is not printable-reachable: it finishes at once (R144), out of the table and its queue, with JOB_DONE, its printer
evaluated and, with stop-after-job on, STOPPED after a HELD job (R151, R160). PRINTING, or HELD on a reachable printer: it goes
to ENDING with that pending outcome, its pages released, no block in flight and the end timer started (R160), its print blocks
withdrawn (R159), a JOB_ABORT sent by its station's segment or its alias's uplink where that queue has room, and the printer is
found BUSY. ENDING: its pending outcome is replaced. What the evaluation finds is stated while no job waits and none has to
leave the printer. Stated where no two jobs share a number. A job number of 0 is RANGE, one no job has NOT_FOUND; an idle timer
that does not run has no expiry (log entry 2). That a head which finishes at once leaves its printer with no block in flight, no
resends and its timers stopped is inferred (log entry 19), and so is that the start of the printer's next job follows as an event
of its own (log entries 5 and 17). -/
def Obligations.JobsEnd : Prop :=
  ∀ (tag : Byte) (n : Half) (s : State),
    (s.takes tag → n = 0 → exec (.cancelJob tag n) s = .next { s with mgmt := s.mgmt.answered (replyMsg 0x88 tag .range []) }) ∧
    (s.takes tag → n ≠ 0 → s.job n = none →
      exec (.cancelJob tag n) s = .next { s with mgmt := s.mgmt.answered (replyMsg 0x88 tag .notFound []) }) ∧
    ((∀ j, s.job n = some j → j.idleTimer = .stopped) → exec (.idleTimerExpiry n) s = .next { s with mgmt := s.mgmt.takeNext }) ∧
    ∀ (j : Job) (c : Instr) (outcome : JobOutcome) (close : Mgmt → Mgmt), s.jobsWf = true → s.job n = some j →
      (c = .cancelJob tag n ∧ s.takes tag ∧ n ≠ 0 ∧ outcome = .cancelled ∧
          close = fun m => m.answered (replyMsg 0x88 tag .ok [])) ∨
        (c = .idleTimerExpiry n ∧ j.idleTimer ≠ .stopped ∧ outcome = .abandoned ∧ close = Mgmt.takeNext) →
      let away := j.delivery = .held ∧ ∀ p e, j.printer = some p → s.printer p = some e → s.unreachable e.station ≠ none
      let report : JobReport :=
        { number := n, outcome := outcome, source := j.source, origin := j.origin, service := j.service, urgent := j.urgent,
          received := j.received, delivered := j.delivered,
          printer := match j.printer with
            | some p => (s.printer p).map fun e => (p, e.station)
            | none => none }
      ∃ t, exec c s = .next t ∧ s.linesKept t ∧ t.pool = s.pool ∧ t.draws = s.draws ∧ t.delivery.groups = s.delivery.groups ∧
        (j.delivery = .queued ∨ away → t.raised = s.raised ++ match j.printer with
          | some p => [.jobEnded p]
          | none => []) ∧
        (¬ (j.delivery = .queued ∨ away) → t.raised = s.raised) ∧
        (j.delivery = .waiting ∨ j.delivery = .queued ∨ away → ∀ k ∈ t.intake.jobs, k.number ≠ n) ∧
        (j.delivery = .waiting → t.intake = { s.intake with jobs := s.intake.jobs.filter fun k => k.number ≠ n } ∧
          t.delivery = s.delivery ∧ t.mgmt = close (s.mgmt.noted (.jobDone report))) ∧
        (j.delivery = .queued ∨ away → ∀ p e (head : Option Job), j.printer = some p → s.printer p = some e →
          (∀ k ∈ s.intake.jobs, k.delivery ≠ .waiting) →
          (∀ m ∈ e.queue, m ≠ n → ∀ k, s.job m = some k → s.rebinds k = false) →
          head = ((e.queue.filter (· ≠ n)).head?.bind s.job) →
          let works : Bool := match head with
            | some k => k.delivery = .printing || k.delivery = .ending
            | none => false
          (works = true → s.unreachable e.station = none) →
          let pause : PauseSet := { e.pause with stopped := e.pause.stopped || (e.stopAfter && j.delivery = .held) }
          let found := if s.unreachable e.station ≠ none then PrinterState.unreachable
            else if works then .busy else if pause = PauseSet.clear then .ready else .paused
          let left : Printer := { e with
            queue := e.queue.filter (· ≠ n)
            pause := pause
            found := found
            foundReason := s.unreachable e.station
            foundPause := pause }
          t.intake = { s.intake with jobs := s.intake.jobs.filter fun k => k.number ≠ n } ∧
          t.printer p = some (if e.queue.head? = some n then { left with
              flight := none
              resends := 0
              blockTimer := .stopped
              retryTimer := .stopped
              endTimer := .stopped }
            else left) ∧
          (∀ q, q ≠ p → t.printer q = s.printer q) ∧
          t.mgmt = close (if found = e.found ∧ s.unreachable e.station = e.foundReason ∧ pause = e.foundPause
            then s.mgmt.noted (.jobDone report)
            else (s.mgmt.noted (.jobDone report)).noted
              (.printerState p e.station e.found found (s.unreachable e.station) pause))) ∧
        (j.delivery = .printing ∨ (j.delivery = .held ∧ ¬ away) → ∀ p e, j.printer = some p → s.printer p = some e →
          e.queue.head? = some n → s.unreachable e.station = none → (∀ k ∈ s.intake.jobs, k.delivery ≠ .waiting) →
          t.intake = { s.intake with
            jobs := s.intake.jobs.map fun k => if k.number = n then { j with
              isOpen := false
              idleTimer := .stopped
              chain := []
              pendingOutcome := some outcome
              delivery := .ending } else k } ∧
          t.mgmt = close (if e.found = .busy ∧ e.foundReason = none ∧ e.foundPause = e.pause then s.mgmt
            else s.mgmt.noted (.printerState p e.station e.found .busy none e.pause)) ∧
          t.printer p = some { e with
            flight := none
            blockTimer := .stopped
            retryTimer := .stopped
            endTimer := .running (e.endTimeout * 1000)
            found := .busy
            foundReason := none
            foundPause := e.pause } ∧
          (∀ q, q ≠ p → t.printer q = s.printer q) ∧
          (∀ i set queue, s.routeTo e.station = some (.segment i set) →
            queue = (s.port i).service.filter (fun x => ! j.chain.any fun page => x.isPage page) →
            (s.port i).state = .forwarding → queue.length < 8 →
            (t.port i).service = queue ++ [⟨.nothing, ⟨e.station, s.table.gateway, 0x13, 0, 0⟩, set⟩]) ∧
          ∀ mac queue, s.routeTo e.station = some (.uplink mac) →
            queue = s.uplink.service.filter (fun x => ! j.chain.any fun page => x.isPage page) →
            s.uplink.up = true → queue.length < 8 →
            t.uplink.service = queue ++ [⟨.nothing, ⟨e.station, s.table.gateway, 0x13, 0, 0⟩, mac⟩]) ∧
        (j.delivery = .ending →
          t.intake = { s.intake with
            jobs := s.intake.jobs.map fun k => if k.number = n then { j with
              isOpen := false
              idleTimer := .stopped
              pendingOutcome := some outcome } else k } ∧
          t.delivery = s.delivery ∧ t.ports = s.ports ∧ t.uplink = s.uplink ∧ t.mgmt = close s.mgmt)

/-! ## Receiver events -/

/-- ACTIVITY_START (R1, R2, R12): carrier appears on a quiet line; the stretch is timed toward the jabber mark, and a reception
begins, where the state detects jabber, the latter unless the part's own attempt has the line. SYNC_WORD_COMPLETE (R8): a reception
that awaits its sync word takes the enabled entry with the fewest differing bits, the lowest index among equals, if that is within
its tolerance; otherwise the word is rejected. Elsewhere neither event changes anything (log entry 2). -/
def Obligations.ReceptionStarts : Prop :=
  ∀ (i : SegIx) (s : State),
    (exec (.activityStart i) s = .next { s with
      ports := if (s.port i).receiver.lineCarrier then s.ports
        else
          let hears : Bool := (s.port i).state = .settling ∨ (s.port i).state = .forwarding ∨ (s.port i).state = .isolated
          s.ports.set i { s.port i with
            receiver :=
              { lineCarrier := true, collisionSeen := false, marked := false,
                carrierTimer := if hears then .running 4 else .stopped,
                reception := if hears && !(s.port i).isSending then some ⟨.awaited, false, false⟩ else none } }
      mgmt := s.mgmt.takeNext }) ∧
    (∀ (word : SyncWord) (r : Reception), (s.port i).receiver.reception = some r → r.sync = .awaited →
      let off (k : SyncIx) : Nat := ((List.range 24).filter fun b => word.getLsbD b ≠ (s.syncs.get k).pattern.getLsbD b).length
      let fits (k : SyncIx) : Prop := (s.syncs.get k).enabled = true ∧ off k ≤ (s.syncs.get k).tolerance
      ∃ outcome, exec (.syncWordComplete i word) s = .next { s with
          ports := s.ports.set i { s.port i with
            receiver := { (s.port i).receiver with reception := some { r with sync := outcome } } }
          mgmt := s.mgmt.takeNext } ∧
        ((∀ k, ¬ fits k) → outcome = .rejected) ∧
        ∀ k, fits k → (∀ m, fits m → off k < off m ∨ (off k = off m ∧ k ≤ m)) → outcome = .accepted k (off k)) ∧
    ∀ word : SyncWord, (∀ r, (s.port i).receiver.reception = some r → r.sync ≠ .awaited) →
      exec (.syncWordComplete i word) s = .next { s with mgmt := s.mgmt.takeNext }

/-- ACTIVITY_END (R10, R12, R13, R86 to R90): the carrier goes and with it jabber; a reception that ends in FORWARDING or
ISOLATED gets the first class of R10 that fits it and feeds the window counts and, in FORWARDING, the receive counters as R13's
table says. A frame as the part itself sends it, header, payload and CRC (R3, R5), is good; one too short is a runt, any other
corrupt. A good frame in FORWARDING goes to the Station Table: a source that is 0, 255, the gateway number, a service number, an
alias or pinned elsewhere is an address violation, dropped, counted, and noticed once per flag (R87); any other is learned (R88
to R90), whatever the frame's destination, and with destination 0 the frame then counts as unreachable (R112) and nothing else
changes. With no carrier nothing changes (log entry 2). How a station change waits for Printer Delivery is the model's choice
(log entry 5). -/
def Obligations.ActivityEnd : Prop :=
  ∀ (i : SegIx) (bytes : List Byte) (s : State),
    ((s.port i).receiver.lineCarrier = false → exec (.activityEnd i bytes) s = .next { s with mgmt := s.mgmt.takeNext }) ∧
    ((s.port i).receiver.lineCarrier = true →
      let good : Prop := ∃ h p, bytes = trunkBytes h p ∧ h.len.toNat = p.length ∧ p.length ≤ 512
      let c := (s.sup i).counts
      let x := (s.port i).rx
      let ends (counts : WindowCounts) (rx : RxCounters) : Prop := exec (.activityEnd i bytes) s = .next { s with
        ports := s.ports.set i { s.port i with
          receiver :=
            { lineCarrier := false, collisionSeen := false, marked := false, carrierTimer := .stopped, reception := none }
          rx := if (s.port i).state = .forwarding then rx else x }
        sups := s.sups.set i { s.sup i with
          counts := if (s.port i).state = .forwarding ∨ (s.port i).state = .isolated then counts else c
          live := { (s.sup i).live with jabber := (s.sup i).live.jabber && !(s.port i).receiver.marked } }
        mgmt := s.mgmt.takeNext }
      ((s.port i).receiver.reception = none ∨ ((s.port i).state ≠ .forwarding ∧ (s.port i).state ≠ .isolated) → ends c x) ∧
      ∀ r, (s.port i).receiver.reception = some r →
        (r.jabberCut = true ∨ r.collided = true → ends c x) ∧
        (r.jabberCut = false → r.collided = false → r.sync = .awaited ∨ r.sync = .rejected →
          ends c { x with unsynced := x.unsynced + 1 }) ∧
        ∀ k m, r.jabberCut = false → r.collided = false → r.sync = .accepted k m →
          (bytes.length < 8 ∨ ¬ good → ends { c with c := countUp c.c } { x with corrupt := x.corrupt + 1 }) ∧
          (good → (s.port i).state = .isolated →
            ends { c with g := countUp c.g, m := if m = 0 then c.m else countUp c.m } x) ∧
          ∀ (h : Header) (p : List Byte), bytes = trunkBytes h p → h.len.toNat = p.length → p.length ≤ 512 →
            (s.port i).state = .forwarding →
            let base := s.goodCounted i m
            let n := h.src
            let e := s.table.entry n
            let counted (f : FwdCounters → FwdCounters) : Four Port :=
              base.ports.set i { base.port i with fwd := f (base.port i).fwd }
            let flagged : Bool := if n = 0 then s.table.flags0.get i else if n = 255 then s.table.flags255.get i else e.violation
            let violates (kind : ViolationKind) (pinnedTo : Option SegIx) : Prop := exec (.activityEnd i bytes) s = .next { base with
              ports := counted fun y => { y with addressViolation := y.addressViolation + 1 }
              table := if flagged then s.table
                else if n = 0 then { s.table with flags0 := s.table.flags0.set i true }
                else if n = 255 then { s.table with flags255 := s.table.flags255.set i true }
                else { s.table with entries := tablePut s.table.entries n.toNat { e with violation := true } }
              mgmt := Mgmt.takeNext (if flagged then s.mgmt else s.mgmt.noted (.addressViolation n i kind pinnedTo)) }
            (n = 0 ∨ n = 255 → violates .invalid none) ∧
            (n ≠ 0 → n ≠ 255 →
              (n = s.table.gateway → violates .gateway none) ∧
              (n ≠ s.table.gateway → (∃ g ∈ s.delivery.groups, g.2.service = n) → violates .service none) ∧
              (n ≠ s.table.gateway → (∀ g ∈ s.delivery.groups, g.2.service ≠ n) → (∃ a ∈ s.table.aliases, a.2.number = n) →
                violates .aliasNumber none) ∧
              ∀ a, ¬ s.claimed n → e.known = .active a ∨ e.known = .quiet a → e.pinned = true → a.segment ≠ i →
                violates .pinned (some a.segment)) ∧
            ∀ u, base.learned n i k u →
              (∃ t more, exec (.activityEnd i bytes) s = .next t ∧ t.table = u.table ∧ t.raised = u.raised ++ more) ∧
              (h.dst = 0 → exec (.activityEnd i bytes) s = .next { u with
                ports := counted fun y => { y with unreachable := y.unreachable + 1 }
                mgmt := u.mgmt.takeNext }))

/-- First, a good DATA frame heard on a FORWARDING segment from an ACTIVE station of that segment for a station of another
FORWARDING segment whose transit queue has room (R13, R86, R91, R106, R112, R114, R34, R123 to R126): the source's silence is 0 and
its sync index the frame's; the frame is stored byte for byte over the fewest free pages, held once; and it stands last in the other
segment's transit queue with the destination's sync word. Nothing else changes but that port's idle transmitter and the counts of
R13. Then every frame that reaches the Forwarding Engine, from a segment or the uplink (R106), by its destination: 0 and 255 (R107,
R112), the gateway number and a service number for the types not taken there (R108, R109), direct printing with its BLOCK_ACK
REFUSED (R110), an alias (R111), a station or an unclaimed number (R112); the ECHO_REPLY the part itself answers (R113); the drops
and the counter each raises (R115); the copies stored once and offered to each port, a full one's copy lost (R114). Which free pages
are taken is the model's choice (log entry 9). -/
def Obligations.FrameForwarded : Prop :=
  (∀ (i k : SegIx) (h : Header) (p : List Byte) (a b : Side) (r : Reception) (x : SyncIx) (m : Nat) (s : State),
      s.pagesWf = true → (s.port i).state = .forwarding → (s.port i).receiver.lineCarrier = true →
      (s.port i).receiver.marked = false → (s.port i).receiver.reception = some r → r.jabberCut = false → r.collided = false →
      r.sync = .accepted x m → h.len.toNat = p.length → p.length ≤ 512 → h.typ = 0x01 →
      h.src ≠ 0 → h.src ≠ 255 → ¬ s.claimed h.src → (s.table.entry h.src).known = .active a → a.segment = i →
      h.dst ≠ 0 → h.dst ≠ 255 → ¬ s.claimed h.dst →
      (s.table.entry h.dst).known = .active b ∨ (s.table.entry h.dst).known = .quiet b → b.segment = k → k ≠ i → h.dst ≠ h.src →
      (s.port k).state = .forwarding → (s.port k).transit.length < 32 →
      (6 + p.length + 255) / 256 ≤ s.freePages →
      ∃ t pages, exec (.activityEnd i (trunkBytes h p)) s = .next t ∧ pages = s.choosePages ((6 + p.length + 255) / 256) ∧
        t = { s with
          ports := t.ports
          sups := t.sups
          table := { s.table with entries := t.table.entries }
          pool := { s.pool with mem := t.pool.mem, frames := t.pool.frames, lowestFree := min s.pool.lowestFree t.freePages }
          mgmt := s.mgmt.takeNext } ∧
        t.port i = { s.port i with
          receiver :=
            { lineCarrier := false, collisionSeen := false, marked := false, carrierTimer := .stopped, reception := none }
          rx := { (s.port i).rx with
            framesIn := (s.port i).rx.framesIn + 1
            marginal := if m = 0 then (s.port i).rx.marginal else (s.port i).rx.marginal + 1 } } ∧
        t.sup i = { s.sup i with
          counts := { (s.sup i).counts with
            g := countUp (s.sup i).counts.g
            m := if m = 0 then (s.sup i).counts.m else countUp (s.sup i).counts.m } } ∧
        (∀ j, j ≠ i → t.sup j = s.sup j) ∧ (∀ j, j ≠ i → j ≠ k → t.port j = s.port j) ∧
        t.table.entry h.src = { s.table.entry h.src with known := .active ⟨i, 0, x⟩ } ∧
        (∀ n, n ≠ h.src → t.table.entry n = s.table.entry n) ∧
        pages.length = (6 + p.length + 255) / 256 ∧ (∀ z ∈ pages, z < 1024 ∧ z ∉ s.ownedPages) ∧ pages.Nodup ∧
        t.freePages = s.freePages - pages.length ∧
        tableGet t.pool.frames (pages.headD 0) = some ⟨pages, 1⟩ ∧
        (∀ f, f ≠ pages.headD 0 → tableGet t.pool.frames f = tableGet s.pool.frames f) ∧
        streamRead t.pool.mem pages 0 (6 + p.length) = [h.dst, h.src, h.typ, h.ctl] ++ nat2 h.len.toNat ++ p ∧
        s.bytesKeptBut t (fun y => ∃ n, n < 6 + p.length ∧ y = 256 * pages.getD (n / 256) 0 + n % 256) ∧
        t.port k = { s.port k with
          transit := (s.port k).transit ++ [⟨.stored (pages.headD 0), h, BitVec.twoPow 3 b.sync.val⟩]
          current := (t.port k).current }) ∧
  ∀ (c : Instr) (o : Origin) (back : Route) (h : Header) (p : List Byte) (s base : State),
    s.pagesWf = true → s.arrives c o back h p base →
    let want := (6 + p.length + 255) / 256
    let typ := h.typ
    let drops (f : FwdCounters → FwdCounters) : Prop := exec c s = .next { base.countFwd o f with mgmt := base.mgmt.takeNext }
    let filtered : Prop := drops fun x => { x with filtered := x.filtered + 1 }
    let unreachable : Prop := drops fun x => { x with unreachable := x.unreachable + 1 }
    let unwanted : Prop := drops fun x => { x with unwanted := x.unwanted + 1 }
    let noBuffer : Prop := drops fun x => { x with noBuffer := x.noBuffer + 1 }
    let answered (u : State) : State := u.countFwd o fun x => { x with answered := x.answered + 1 }
    let sent (routes : List Route) : Prop :=
      (routes = [] → filtered) ∧ (routes ≠ [] → base.freePages < want → noBuffer) ∧
      ∀ room : Route → Bool, (∀ r ∈ routes, (room r = true ↔ base.hasRoom false r)) → routes ≠ [] → want ≤ base.freePages →
        let taken := routes.filter room
        let rest := (routes.filter fun r => !room r).foldl State.tailDropped base
        ∃ t, exec c s = .next t ∧ (taken ≠ [] → rest.storedFor t false h p taken) ∧ (taken = [] → rest.storedAndFreed t p)
    let echoed : Prop :=
      (base.freePages < want → noBuffer) ∧
      (want ≤ base.freePages →
        (base.hasRoom true back → ∃ t, exec c s = .next t ∧
          (answered base).storedFor t true ⟨h.src, h.dst, 0x21, 0, h.len⟩ p [back]) ∧
        (¬ base.hasRoom true back → ∃ t, exec c s = .next t ∧ (base.serviceRefused back).storedAndFreed t p))
    let others : List Route := (segments.filter fun i =>
      decide ((base.port i).state = .forwarding) && decide (o ≠ .segment i)).map fun i => .segment i (enabledSet base.syncs)
    let service : Prop := ∃ g ∈ base.delivery.groups, g.2.service = h.dst
    let direct : Prop := base.named h.dst ∧ (typ = 0x10 ∨ typ = 0x11 ∨ typ = 0x12 ∨ typ = 0x13)
    (h.dst = 0 → unreachable) ∧
    (h.dst = 255 → sent (others ++
      if o ≠ .uplink ∧ base.uplink.broadcast = true ∧ base.uplink.up = true then [.uplink 0xFFFFFFFFFFFF] else [])) ∧
    (h.dst ≠ 0 → h.dst ≠ 255 → h.dst = base.table.gateway →
      (typ = 0x20 → echoed) ∧ (typ ≠ 0x11 → typ ≠ 0x12 → typ ≠ 0x20 → unwanted)) ∧
    (h.dst ≠ 0 → h.dst ≠ 255 → h.dst ≠ base.table.gateway →
      (service → (typ = 0x20 → echoed) ∧ (typ ≠ 0x10 → typ ≠ 0x20 → unwanted)) ∧
      (¬ service → direct →
        let u := base.countFwd o fun x => { x with directPrint := x.directPrint + 1 }
        (typ ≠ 0x10 → exec c s = .next { u with mgmt := base.mgmt.takeNext }) ∧
        (typ = 0x10 →
          (base.hasRoom true back → exec c s = .next { answered (u.queued true .nothing
              ⟨h.src, base.table.gateway, 0x11, (2 : BitVec 4) ++ h.ctl.extractLsb' 0 4, 0⟩ back) with mgmt := base.mgmt.takeNext }) ∧
          (¬ base.hasRoom true back → exec c s = .next { u.serviceRefused back with mgmt := base.mgmt.takeNext }))) ∧
      (¬ service → ¬ direct →
        (∀ a, base.aliasOf h.dst = some a →
          (o = .uplink → (typ = 0x20 → echoed) ∧ (typ ≠ 0x20 → filtered)) ∧
          (o ≠ .uplink → (base.uplink.up = false → unreachable) ∧
            (base.uplink.up = true → (typ = 0x20 → echoed) ∧ (typ ≠ 0x20 → sent [.uplink a.2.mac])))) ∧
        ((∀ a ∈ base.table.aliases, a.2.number ≠ h.dst) →
          let toward (z : Side) : List Route :=
            if (base.port z.segment).state = .forwarding ∧ o ≠ .segment z.segment
              then [.segment z.segment (BitVec.twoPow 3 z.sync.val)] else []
          ((base.table.entry h.dst).known = .empty → sent others) ∧
          (∀ z, (base.table.entry h.dst).known = .active z ∨ (base.table.entry h.dst).known = .quiet z →
            (o = .segment z.segment → filtered) ∧
            (o ≠ .segment z.segment → (base.port z.segment).state ≠ .forwarding → unreachable) ∧
            (toward z ≠ [] → sent (toward z))) ∧
          ∀ y z, (base.table.entry h.dst).known = .duplicate y z → y.segment ≠ z.segment →
            let routes := if y.segment < z.segment then toward y ++ toward z else toward z ++ toward y
            (routes ≠ [] → sent routes) ∧
            (routes = [] → (o = .segment y.segment ∨ o = .segment z.segment → filtered) ∧
              (o ≠ .segment y.segment → o ≠ .segment z.segment → unreachable)))))

/-- A print block for a group's service number, from a segment or the uplink (R109, R134 to R139). A resend of the last block of its
key's latest job is answered ACCEPTED and stored nowhere; a block without FIRST and without an open job, or past the largest
received count, REFUSED; one out of sequence is ignored; a full table, quota or reserve gives RETRY. With FIRST a job opens with the
block's bytes on the pages granted, under the next number, 1 after 65535, that no job has (R136). The key's open job is first
abandoned (R136, R140): one that waits, stated while no print block is queued; one PRINTING, or HELD on a reachable printer, goes to
ENDING; one QUEUED, or HELD on an unreachable printer, finishes at once with JOB_DONE and leaves its queue (R144, R159), its printer
evaluated (R151), STOPPED after a HELD one with stop-after-job on (R160); these while no job waits, and, in the last two, none of
the printer's other jobs rebinds (R164). Without FIRST, in sequence, the block is appended to its key's open job, first into the
room of the tail page. The record is R133's, the job's change is told to Printer Delivery, the block counted, and a BLOCK_ACK goes
last into the sender's service queue, counted as lost where that is full. It is inferred that a block which opens or grows a job and
closes it is told as two changes (log entry 39), where a block goes after an empty first one (log entry 20), that the flight and the
timers go with a head (log entry 19), and that the printer's next job starts by an event of its own (log entry 17). The values of a
field no rule gives (log entry 22) are left open. Which free pages are taken, how the changes wait, and that the received limit is
judged before the pages is the model's choice (log entries 9, 5 and 48). -/
def Obligations.PrintBlockStored : Prop :=
  ∀ (c : Instr) (o : Origin) (back : Route) (h : Header) (p : List Byte) (g : Nat) (grp : Group) (s base : State),
    s.pagesWf = true → s.arrives c o back h p base → h.typ = 0x10 →
    h.dst ≠ 0 → h.dst ≠ 255 → h.dst ≠ s.table.gateway → s.groupOf h.dst = some (g, grp) →
    let seq : BlockSeq := h.ctl.extractLsb' 0 4
    let first : Bool := h.ctl.getLsbD 7
    let last : Bool := h.ctl.getLsbD 6
    let jobs := s.intake.jobs
    let keyed (j : Job) : Prop := j.source = h.src ∧ j.origin = o ∧ j.group = some g
    let repeats (j : Job) : Prop := j.pendingOutcome = none ∧ j.lastSeq = seq ∧ j.lastFirst = first
    let latest (j : Job) : Prop := ∃ before after, jobs = before ++ j :: after ∧ keyed j ∧ ∀ k ∈ after, ¬ keyed k
    let answers (status : BitVec 2) (u : State) : Prop :=
      (u.hasRoom true back → exec c s = .next { u.queued true .nothing ⟨h.src, h.dst, 0x11, (0 : BitVec 2) ++ status ++ seq, 0⟩ back with
        mgmt := u.mgmt.takeNext }) ∧
      (¬ u.hasRoom true back → exec c s = .next { u.serviceRefused back with
        intake := { u.intake with counters := { u.intake.counters with answersLost := u.intake.counters.answersLost + 1 } }
        mgmt := u.mgmt.takeNext })
    let refuses : Prop := answers 2 { base with
      intake := { s.intake with counters := { s.intake.counters with refused := s.intake.counters.refused + 1 } } }
    let retries (u : State) (pool : Pool) : Prop := answers 1 { u with
      pool := pool
      intake := { u.intake with counters := { u.intake.counters with retries := u.intake.counters.retries + 1 } } }
    let noQuota (u : State) : Prop := retries u { u.pool with quotaRefusals := u.pool.quotaRefusals + 1 }
    let noReserve (u : State) : Prop := retries u { u.pool with reserveRefusals := u.pool.reserveRefusals + 1 }
    let stored (u v : State) (j : Job) (pages at_ : List Nat) (offset : Nat) : Prop :=
      pages = u.choosePages pages.length ∧ pages.Nodup ∧ (∀ z ∈ pages, z < 1024 ∧ z ∉ u.ownedPages) ∧
      v = { u with
        raised := u.raised ++ [.jobChange j.number (some g)] ++ (if last then [.jobChange j.number (some g)] else [])
        draws := v.draws
        pool := { u.pool with mem := v.pool.mem, lowestFree := min u.pool.lowestFree (u.freePages - pages.length) }
        intake := { u.intake with
          jobs := v.intake.jobs
          nextNumber := v.intake.nextNumber
          counters := { u.intake.counters with stored := u.intake.counters.stored + 1 } } } ∧
      v.freePages = u.freePages - pages.length ∧ streamRead v.pool.mem at_ offset p.length = p ∧
      u.bytesKeptBut v (fun y => ∃ n, n < p.length ∧ y = 256 * at_.getD ((offset + n) / 256) 0 + (offset + n) % 256)
    let opens (u : State) : Prop :=
      let want := max 1 ((p.length + 255) / 256)
      (64 ≤ u.intake.jobs.length → retries u u.pool) ∧
      (u.intake.jobs.length < 64 → want ≤ u.pool.quota → u.freePages < want + u.pool.reserve → noReserve u) ∧
      (u.intake.jobs.length < 64 → want ≤ u.pool.quota → want + u.pool.reserve ≤ u.freePages →
        ∃ v j pages, stored u v j pages pages 0 ∧ answers 0 v ∧ pages.length = want ∧ v.draws = u.draws + 1 ∧
          v.intake.jobs = u.intake.jobs ++ [j] ∧ (∀ k ∈ u.intake.jobs, k.number ≠ j.number) ∧
          v.intake.nextNumber = (if j.number = 65535 then 1 else j.number + 1) ∧
          ((∀ k ∈ u.intake.jobs, k.number ≠ u.intake.nextNumber) → j.number = u.intake.nextNumber) ∧
          (let later (n : Half) : Half := if n = 65535 then 1 else n + 1
           ∃ tries, tries ≤ u.intake.jobs.length ∧ j.number = Nat.repeat later tries u.intake.nextNumber ∧
             ∀ i, i < tries → ∃ k ∈ u.intake.jobs, k.number = Nat.repeat later i u.intake.nextNumber) ∧
          j =
            { number := j.number, source := h.src, origin := o, group := some g, service := h.dst,
              urgent := h.ctl.getLsbD 5, isOpen := !last, lastSeq := seq, lastFirst := true, expected := seq + 1,
              received := p.length, chain := pages, lastActivity := s.time.seconds,
              idleTimer := if last then .stopped else .running (s.intake.idleTime * 1000), pendingOutcome := none,
              delivery := .waiting, delivered := 0, printer := none, printerSeq := j.printerSeq, blockOffered := false,
              activeTime := 0 })
    (∀ j, latest j → repeats j → answers 0 { base with
      intake := { s.intake with counters := { s.intake.counters with resends := s.intake.counters.resends + 1 } } }) ∧
    ((∀ j, latest j → ¬ repeats j) →
      (first = true → (∀ j ∈ jobs, keyed j → j.isOpen = false) → opens base) ∧
      (first = true → ∀ j ∈ jobs, keyed j → j.isOpen = true → (∀ k ∈ jobs, keyed k → k.isOpen = true → k = j) →
        j.delivery = .waiting → j.printer = none →
        (∀ k, ∀ x ∈ (base.port k).service, ∀ page at_ n, x.source ≠ .span page at_ n) →
        (∀ x ∈ base.uplink.service, ∀ page at_ n, x.source ≠ .span page at_ n) →
        opens { base with
          intake := { s.intake with jobs := jobs.filter fun k => k.number ≠ j.number }
          mgmt := base.mgmt.noted (.jobDone ⟨j.number, .abandoned, j.source, j.origin, j.service, j.urgent, j.received, j.delivered,
            none⟩) }) ∧
      (first = true → ∀ j ∈ jobs, keyed j → j.isOpen = true → (∀ k ∈ jobs, keyed k → k.isOpen = true → k = j) →
        ∀ q e, j.delivery = .printing ∨ j.delivery = .held → j.printer = some q → base.printer q = some e →
          e.queue.head? = some j.number →
          base.unreachable e.station = none → (∀ k ∈ jobs, k.delivery ≠ .waiting) →
          ∃ u, base.linesKept u ∧ u.pool = base.pool ∧ u.raised = base.raised ∧ opens u ∧
            u.intake = { s.intake with jobs := jobs.map fun k => if k.number = j.number then { j with
              isOpen := false
              idleTimer := .stopped
              chain := []
              pendingOutcome := some .abandoned
              delivery := .ending } else k }) ∧
      (first = true → ∀ j ∈ jobs, keyed j → j.isOpen = true → (∀ k ∈ jobs, keyed k → k.isOpen = true → k = j) →
        ∀ q e (head : Option Job), j.printer = some q → base.printer q = some e →
          j.delivery = .queued ∨ (j.delivery = .held ∧ base.unreachable e.station ≠ none) →
          (∀ k ∈ jobs, k.delivery ≠ .waiting) →
          (∀ m ∈ e.queue, m ≠ j.number → ∀ k, base.job m = some k → base.rebinds k = false) →
          head = ((e.queue.filter (· ≠ j.number)).head?.bind base.job) →
          let works : Bool := head.any fun k => k.delivery = .printing || k.delivery = .ending
          (works = true → base.unreachable e.station = none) →
          let why := base.unreachable e.station
          let gone : Printer := { e.left [j.number] with
            pause := { e.pause with stopped := e.pause.stopped || (e.stopAfter && j.delivery = .held) } }
          let st := if why ≠ none then PrinterState.unreachable
            else if works then .busy else if gone.pause = PauseSet.clear then .ready else .paused
          opens { base.withdrawn j.chain with
            raised := base.raised ++ [.jobEnded q]
            intake := { s.intake with jobs := jobs.filter fun k => k.number ≠ j.number }
            delivery := { base.delivery with printers := tablePut base.delivery.printers q (gone.seen st why) }
            mgmt := (base.mgmt.noted (.jobDone ⟨j.number, .abandoned, j.source, j.origin, j.service, j.urgent, j.received, j.delivered,
              some (q, e.station)⟩)).told q gone st why }) ∧
      (first = false → (∀ j ∈ jobs, keyed j → j.isOpen = false) → refuses) ∧
      (first = false → ∀ j ∈ jobs, keyed j → j.isOpen = true → (∀ k ∈ jobs, keyed k → k.isOpen = true → k = j) →
        (j.expected ≠ seq → exec c s = .next { base with
          intake := { s.intake with counters := { s.intake.counters with ignored := s.intake.counters.ignored + 1 } }
          mgmt := base.mgmt.takeNext }) ∧
        (j.expected = seq → 4294967295 < j.received + p.length → refuses) ∧
        (j.expected = seq → j.received + p.length ≤ 4294967295 →
          let room := if j.received % 256 = 0 then 0 else 256 - j.received % 256
          let want := (p.length - room + 255) / 256
          (0 < want → s.pool.quota < j.chain.length + want → noQuota base) ∧
          (0 < want → j.chain.length + want ≤ s.pool.quota → base.freePages < want + s.pool.reserve → noReserve base) ∧
          ∀ tail, (want = 0 ∨ j.chain.length + want ≤ s.pool.quota) → (want = 0 ∨ want + s.pool.reserve ≤ base.freePages) →
            j.chain.getLast? = some tail →
            ∃ v pages, stored base v j pages (if room = 0 then pages else tail :: pages) (j.received % 256) ∧ answers 0 v ∧
              pages.length = want ∧ v.draws = s.draws ∧ v.intake.nextNumber = s.intake.nextNumber ∧
              v.intake.jobs = jobs.map fun k => if k.number = j.number then { j with
                received := j.received + p.length
                chain := j.chain ++ pages
                lastSeq := seq
                lastFirst := false
                expected := seq + 1
                lastActivity := s.time.seconds
                isOpen := !last
                idleTimer := if last then .stopped else .running (s.intake.idleTime * 1000) } else k)))

/-- JABBER_MARK (R12, R13, R53, R54): reached while the stretch is timed; the frame is abandoned, jabber counted in the window
and, in FORWARDING, in the port counters, and JABBER is live. Newly live in a supervised state with the mask over and its flag
clear, it latches: the flag, a fault record (R59, R60), its FAULT notice, and in FORWARDING the isolation order, when automatic
isolation is on and JABBER in the isolate set. A carrier timer that does not run reaches no mark (log entry 2). How the change
waits for the blocks it is passed to is the model's choice (log entry 5). -/
def Obligations.JabberMark : Prop :=
  ∀ (i : SegIx) (s : State),
    ((s.port i).receiver.carrierTimer = .stopped → exec (.jabberMark i) s = .next { s with mgmt := s.mgmt.takeNext }) ∧
    ((s.port i).receiver.carrierTimer ≠ .stopped →
      let c := s.sup i
      let watched : Bool := (s.port i).state = .forwarding ∨ (s.port i).state = .isolated
      let latches : Bool := watched && !c.live.jabber && c.mask = 0 && !c.latched.jabber
      let record : FaultRecord := ⟨c.nextSeq, s.time.seconds, .condition .jabber, c.health, none⟩
      exec (.jabberMark i) s = .next { s with
        ports := s.ports.set i { s.port i with
          receiver := { (s.port i).receiver with
            marked := true
            carrierTimer := .stopped
            reception := (s.port i).receiver.reception.map fun r => { r with jabberCut := !r.collided } }
          rx := if (s.port i).state = .forwarding
            then { (s.port i).rx with jabber := (s.port i).rx.jabber + 1 } else (s.port i).rx }
        sups := s.sups.set i { c with
          counts := if watched then { c.counts with j := countUp c.counts.j } else c.counts
          live := { c.live with jabber := true }
          latched := if latches then { c.latched with jabber := true } else c.latched
          nextSeq := if latches then c.nextSeq + 1 else c.nextSeq
          history := if latches then record :: c.history.take 7 else c.history }
        raised := s.raised ++
          if latches && (s.port i).state = .forwarding && c.settings.autoIsolate && c.settings.isolateSet.jabber
          then [.isolationOrder i .jabber c.settings.autoTest] else []
        mgmt := Mgmt.takeNext (if latches then s.mgmt.noted (.fault i record) else s.mgmt) })

/-- COLLISION_DETECTED (R11, R13, R38): counted once in a stretch of carrier, or when the part's own attempt meets it, in FORWARDING
and ISOLATED, one first met in SETTLING being the stretch's one all the same, one in TESTING not (log entry 25), and it makes the
reception a collision unless its jabber mark came first. An attempt it meets ends with a 32-bit jam on the line, which bits being left open (log entry 45).
Below the twelfth it backs off for fewer than 2^min(n, 8) slots, which ones being chance (log entry 8); the twelfth counts as excess,
sets TX_BLOCKED live and gives the copy up: with no other copy to go, the entry leaves its queue, a stored frame loses one reference
(R126), and the next entry is taken (R38, R39). TX_BLOCKED newly live in a supervised state with the mask over and its flag clear
latches: the flag, a fault record (R59, R60), its FAULT notice, and in FORWARDING the isolation order when automatic isolation is on
and TX_BLOCKED in the isolate set (R52 to R54). Where no collision is to be met nothing changes (log entry 2). How the order waits is
the model's choice (log entry 5). -/
def Obligations.CollisionDetected : Prop :=
  ∀ (i : SegIx) (s : State),
    let p := s.port i
    let hears : Prop := p.state = .settling ∨ p.state = .forwarding ∨ p.state = .isolated
    let heard : Receiver := { p.receiver with
      collisionSeen := p.receiver.lineCarrier
      reception := p.receiver.reception.map fun r => if r.jabberCut then r else { r with collided := true } }
    let rx : RxCounters := if p.state = .forwarding then { p.rx with collisions := p.rx.collisions + 1 } else p.rx
    let counts : WindowCounts := if p.state = .forwarding ∨ p.state = .isolated
      then { (s.sup i).counts with k := countUp (s.sup i).counts.k } else (s.sup i).counts
    (¬ hears ∨ (p.isSending = false ∧ (p.receiver.lineCarrier = false ∨ p.receiver.collisionSeen = true)) →
      exec (.collisionDetected i) s = .next { s with mgmt := s.mgmt.takeNext }) ∧
    (hears → p.isSending = false → p.receiver.lineCarrier = true → p.receiver.collisionSeen = false →
      exec (.collisionDetected i) s = .next { s with
        ports := s.ports.set i { p with receiver := heard, rx := rx }
        sups := s.sups.set i { s.sup i with counts := counts }
        mgmt := s.mgmt.takeNext }) ∧
    ∀ c, hears → p.isSending = true → p.current = some c →
      (c.attempt < 12 → ∃ slots jam, slots < 2 ^ min c.attempt 8 ∧ exec (.collisionDetected i) s = .next { s with
        draws := s.draws + 1
        ports := s.ports.set i { p with receiver := heard, rx := rx, current := some { c with phase := .backoff slots }, jam := some jam }
        sups := s.sups.set i { s.sup i with counts := counts }
        mgmt := s.mgmt.takeNext }) ∧
      (12 ≤ c.attempt →
        let d := s.sup i
        let latches : Bool := (p.state = .forwarding ∨ p.state = .isolated) && !d.live.txBlocked && d.mask = 0 && !d.latched.txBlocked
        let record : FaultRecord := ⟨d.nextSeq, s.time.seconds, .condition .txBlocked, d.health, none⟩
        ∃ t jam, exec (.collisionDetected i) s = .next t ∧
          t = { s with
            draws := s.draws + 1
            ports := t.ports
            sups := s.sups.set i { d with
              counts := counts
              live := { d.live with txBlocked := true }
              latched := if latches then { d.latched with txBlocked := true } else d.latched
              nextSeq := if latches then d.nextSeq + 1 else d.nextSeq
              history := if latches then record :: d.history.take 7 else d.history }
            pool := t.pool
            raised := s.raised ++
              if latches && p.state = .forwarding && d.settings.autoIsolate && d.settings.isolateSet.txBlocked
              then [.isolationOrder i .txBlocked d.settings.autoTest] else []
            mgmt := Mgmt.takeNext (if latches then s.mgmt.noted (.fault i record) else s.mgmt) } ∧
          (∀ k, k ≠ i → t.port k = s.port k) ∧
          t.port i = { p with
            receiver := heard
            rx := rx
            tx := { p.tx with excess := p.tx.excess + 1 }
            jam := some jam
            service := (t.port i).service
            transit := (t.port i).transit
            current := (t.port i).current } ∧
          (∀ x y rest, c.copies = x :: y :: rest → (t.port i).service = p.service ∧ (t.port i).transit = p.transit ∧
            t.pool = s.pool ∧ (t.port i).current = some ⟨c.service, y :: rest, 1, none, .deferring⟩) ∧
          ∀ e, c.copies.length ≤ 1 → p.currentEntry = some e →
            s.refsDropped t [e.source] ∧
            (t.port i).service = (if c.service then p.service.drop 1 else p.service) ∧
            (t.port i).transit = (if c.service then p.transit else p.transit.drop 1) ∧
            (t.port i).current = (match (t.port i).service, (t.port i).transit with
              | n :: _, _ => some ⟨true, sendList s.syncs n.dest, 1, none, .deferring⟩
              | [], n :: _ => some ⟨false, sendList s.syncs n.dest, 1, none, .deferring⟩
              | [], [] => none))

/-! ## Transmitter events -/

/-- TRANSMIT_ATTEMPT (R36, R37, R181): while an entry is deferred and the FORWARDING line has no carrier, its frame goes out: 64
alternating bits, the first a 1, the pattern of its sync entry as the copy's first attempt found it, header, payload and a fresh
CRC, and the jam of an earlier attempt is forgotten (log entry 45); otherwise the event does not arise and nothing changes (log
entry 2). BACKOFF_EXPIRY (R38): the next attempt defers.
COPY_SENT (R39): the frame is counted, TX_BLOCKED clears, and the next copy is taken up at attempt 1; after the last, the entry
leaves its queue, a stored frame loses one reference and its pages when that was the last (R126), and the next entry is taken.
-/
def Obligations.TransmitterEvents : Prop :=
  ∀ (i : SegIx) (s : State) (c : Current) (e : QEntry SyncSet), (s.port i).current = some c → (s.port i).currentEntry = some e →
    (c.phase = .deferring → (s.port i).state = .forwarding → (s.port i).carrier = false → ∀ n rest, c.copies = n :: rest →
      ∃ sync payload, sync = c.pattern.getD (s.syncs.get n).pattern ∧ payload = s.payloadOf e.header e.source ∧
        exec (.transmitAttempt i) s = .next { s with
          ports := s.ports.set i { s.port i with
            jam := none
            current := some { c with
              pattern := some sync
              phase := .sending (List.replicate 8 0xAA ++
                [sync.extractLsb' 16 8, sync.extractLsb' 8 8, sync.extractLsb' 0 8] ++ e.header.bytes ++ payload ++
                nat2 (trunkCrc (e.header.bytes ++ payload)).toNat) } }
          mgmt := s.mgmt.takeNext }) ∧
    (c.phase ≠ .deferring ∨ (s.port i).state ≠ .forwarding ∨ (s.port i).carrier = true →
      exec (.transmitAttempt i) s = .next { s with mgmt := s.mgmt.takeNext }) ∧
    (∀ slots, c.phase = .backoff slots → exec (.backoffExpiry i) s = .next { s with
      ports := s.ports.set i { s.port i with current := some { c with attempt := c.attempt + 1, phase := .deferring } }
      mgmt := s.mgmt.takeNext }) ∧
    ∀ frame, c.phase = .sending frame → ∃ t, exec (.copySent i) s = .next t ∧
      t = { s with ports := t.ports, sups := t.sups, pool := t.pool, mgmt := s.mgmt.takeNext } ∧
      t.sup i = { s.sup i with live := { (s.sup i).live with txBlocked := false } } ∧
      (∀ k, k ≠ i → t.port k = s.port k ∧ t.sup k = s.sup k) ∧ t.pool = { s.pool with frames := t.pool.frames } ∧
      t.port i = { s.port i with
        tx := { (s.port i).tx with framesOut := (s.port i).tx.framesOut + 1 }
        service := (t.port i).service
        transit := (t.port i).transit
        current := (t.port i).current } ∧
      (∀ x y rest, c.copies = x :: y :: rest → (t.port i).service = (s.port i).service ∧ (t.port i).transit = (s.port i).transit ∧
        t.pool = s.pool ∧ (t.port i).current = some ⟨c.service, y :: rest, 1, none, .deferring⟩) ∧
      (c.copies.length ≤ 1 →
        (t.port i).service = (if c.service then (s.port i).service.drop 1 else (s.port i).service) ∧
        (t.port i).transit = (if c.service then (s.port i).transit else (s.port i).transit.drop 1) ∧
        (t.port i).current = (match (t.port i).service, (t.port i).transit with
          | n :: _, _ => some ⟨true, sendList s.syncs n.dest, 1, none, .deferring⟩
          | [], n :: _ => some ⟨false, sendList s.syncs n.dest, 1, none, .deferring⟩
          | [], [] => none) ∧
        ((∀ f, e.source ≠ .stored f) → t.pool = s.pool) ∧
        ∀ f record, e.source = .stored f → tableGet s.pool.frames f = some record →
          tableGet t.pool.frames f = (if record.refs ≤ 1 then none else some { record with refs := record.refs - 1 }) ∧
          ∀ g, g ≠ f → tableGet t.pool.frames g = tableGet s.pool.frames g)

/-! ## Settle timer, orders, supervision -/

/-- SETTLE_TIMER_EXPIRY (R25): a SETTLING segment goes to ISOLATED for JABBER when JABBER is live, else to FORWARDING.
ISOLATION_ORDER (R28): a FORWARDING segment goes to ISOLATED with the order's condition as its reason, queues flushed and the
references of the flushed entries dropped (R35, R126), and the supervisor is told it was taken; in another state it is not taken
and the supervisor is told so. REJOIN_ORDER (R29): an ISOLATED segment goes to SETTLING; in another state the order is dropped.
The oldest order on its way to the port is the one taken (log entry 5); with none, or no timer running, the event does not arise
(log entry 2). -/
def Obligations.SettleAndOrders : Prop :=
  ∀ (i : SegIx) (s : State), s.portsWf = true →
    ((s.port i).state ≠ .settling → exec (.settleTimerExpiry i) s = .next { s with mgmt := s.mgmt.takeNext }) ∧
    ((s.port i).state = .settling → ∀ new reason, (new, reason) =
        (if (s.sup i).live.jabber then (SegState.isolated, some (IsoReason.fault .jabber)) else (.forwarding, none)) →
      exec (.settleTimerExpiry i) s = .next { s with
        ports := s.ports.set i { s.port i with state := new, settleTimer := .stopped, reason := reason }
        raised := s.raised ++ [.stateEntry i .settling new reason, .segmentChange i]
        mgmt := (s.mgmt.noted (.segmentState i .settling new reason .transceiver (s.port i).trim .settleExpiry)).takeNext }) ∧
    (∀ before after (c : Condition) (test : Bool), s.raised = before ++ .isolationOrder i c test :: after →
      (∀ r ∈ before, ∀ d b, r ≠ .isolationOrder i d b) →
      ((s.port i).state = .forwarding → ∃ t, exec (.isolationOrder i) s = .next t ∧
        t = { s with
          ports := s.ports.set i { s.port i with
            state := .isolated
            reason := some (.fault c)
            service := []
            transit := []
            current := none
            tx := { (s.port i).tx with
              flushed := (s.port i).tx.flushed + BitVec.ofNat 32 ((s.port i).service.length + (s.port i).transit.length) } }
          pool := t.pool
          raised := before ++ after ++
            [.stateEntry i .forwarding .isolated (some (.fault c)), .segmentChange i, .orderResult i true c test]
          mgmt := (s.mgmt.noted
            (.segmentState i .forwarding .isolated (some (.fault c)) .transceiver (s.port i).trim .supervisor)).takeNext } ∧
        s.refsDropped t (((s.port i).service ++ (s.port i).transit).map QEntry.source)) ∧
      ((s.port i).state ≠ .forwarding → exec (.isolationOrder i) s = .next { s with
        raised := before ++ after ++ [.orderResult i false c test]
        mgmt := s.mgmt.takeNext })) ∧
    (∀ before after, s.raised = before ++ .rejoinOrder i :: after → .rejoinOrder i ∉ before →
      ((s.port i).state = .isolated → exec (.rejoinOrder i) s = .next { s with
        ports := s.ports.set i { s.port i with
          state := .settling
          settleTimer := .running (s.port i).settleTime
          reason := none }
        raised := before ++ after ++ [.stateEntry i .isolated .settling none, .leftIsolated i, .segmentChange i]
        mgmt := (s.mgmt.noted (.segmentState i .isolated .settling none .transceiver (s.port i).trim .supervisor)).takeNext }) ∧
      ((s.port i).state ≠ .isolated → exec (.rejoinOrder i) s = .next { s with
        raised := before ++ after
        mgmt := s.mgmt.takeNext })) ∧
    ((∀ c b, .isolationOrder i c b ∉ s.raised) → exec (.isolationOrder i) s = .next { s with mgmt := s.mgmt.takeNext }) ∧
    (.rejoinOrder i ∉ s.raised → exec (.rejoinOrder i) s = .next { s with mgmt := s.mgmt.takeNext })

/-- ISOLATION_ORDER_RESULT (R55, R58): an order that was taken is a flap, which starts the flap timer from 0 (saturating at 7),
and a TX_BLOCKED or HEALTH one asks for an automatic test when the auto-test setting was on at its latch (R42); one not taken
changes nothing. FLAP_TIMER_EXPIRY (R58): one flap fewer, the timer started again while any is left; a timer that does not run
has no expiry (log entry 2). TESTER_SEGMENT_LEFT_ISOLATED (R23, R70): the pending flag is cleared. AUTO_TEST_REQUEST (R68, R69):
on an ISOLATED segment it starts a test with the tester free, and else sets the pending flag; elsewhere it is dropped. That the
notice of its start gives the line code 48 is inferred (log entry 31). Each takes the oldest event of its kind (log entry 5). -/
def Obligations.FlapsAndAutomaticTests : Prop :=
  ∀ (i : SegIx) (s : State),
    (∀ before after (taken : Bool) (c : Condition) (test : Bool), s.raised = before ++ .orderResult i taken c test :: after →
      (∀ r ∈ before, ∀ k d b, r ≠ .orderResult i k d b) →
      exec (.isolationOrderResult i) s = .next (if taken then { s with
          sups := s.sups.set i { s.sup i with
            flaps := if (s.sup i).flaps < 7 then (s.sup i).flaps + 1 else (s.sup i).flaps
            flapTimer := if (s.sup i).flaps = 0 then .running 600000 else (s.sup i).flapTimer }
          raised := before ++ after ++ (if test ∧ c ≠ .jabber then [.autoTest i] else [])
          mgmt := s.mgmt.takeNext }
        else { s with raised := before ++ after, mgmt := s.mgmt.takeNext })) ∧
    ((s.sup i).flapTimer ≠ .stopped → exec (.flapTimerExpiry i) s = .next { s with
      sups := s.sups.set i { s.sup i with
        flaps := (s.sup i).flaps - 1
        flapTimer := if 1 < (s.sup i).flaps then .running 600000 else .stopped }
      mgmt := s.mgmt.takeNext }) ∧
    ((s.sup i).flapTimer = .stopped → exec (.flapTimerExpiry i) s = .next { s with mgmt := s.mgmt.takeNext }) ∧
    (∀ before after, s.raised = before ++ .leftIsolated i :: after → .leftIsolated i ∉ before →
      exec (.testerSegmentLeftIsolated i) s = .next { s with
        tester := { s.tester with pendingFlags := s.tester.pendingFlags.set i false }
        raised := before ++ after
        mgmt := s.mgmt.takeNext }) ∧
    ∀ before after, s.raised = before ++ .autoTest i :: after → .autoTest i ∉ before →
      ((s.port i).state ≠ .isolated → exec (.autoTestRequest i) s = .next { s with
        raised := before ++ after
        mgmt := s.mgmt.takeNext }) ∧
      ((s.port i).state = .isolated → s.tester.context ≠ none → exec (.autoTestRequest i) s = .next { s with
        tester := { s.tester with pendingFlags := s.tester.pendingFlags.set i true }
        raised := before ++ after
        mgmt := s.mgmt.takeNext }) ∧
      ((s.port i).state = .isolated → s.tester.context = none → s.portsWf = true → exec (.autoTestRequest i) s = .next { s with
        ports := s.ports.set i { s.port i with
          state := .testing
          lineCode := 48
          receiver := { (s.port i).receiver with marked := false, carrierTimer := .stopped, reception := none } }
        sups := s.sups.set i { s.sup i with live := { (s.sup i).live with
          jabber := (s.sup i).live.jabber && !(s.port i).receiver.marked } }
        tester := { s.tester with
          context := some
            { segment := i, cause := .automatic, stage := .quietCheck, attempts := 1, trimRequested := false, accepted := 0,
              bit := 5, prior := (s.port i).trim, parkedBefore := false, rangingDone := false, wait := .stopped,
              raiseAfterWait := false }
          pendingFlags := s.tester.pendingFlags.set i false }
        raised := before ++ after ++ [.stateEntry i .isolated .testing (s.port i).reason, .leftIsolated i, .segmentChange i]
        mgmt := (s.mgmt.noted (.segmentState i .isolated .testing none .transceiver 48 .tester)).takeNext })

/-- SUPERVISOR_STATE_ENTRY (R33, R43, R44, R52, R56, R58, R59): what a supervision context does at its segment's entry to each
state, by the state it left and the isolation reason. A window begins in FORWARDING and ISOLATED, J at 1 while JABBER is live;
elsewhere the window timer stops and the counts are 0. SETTLING clears the latched flags, TX_BLOCKED, HEALTH and both counters;
FORWARDING starts the mask; ISOLATED from SETTLING latches JABBER when it is live, or was when the settle timer made it the reason
(R53, R55; that a JABBER live at a REQUESTED isolation is judged at this event is the model's choice, log entry 42); a REQUESTED
isolation is a fault record; TESTING keeps,
PARKED clears the mask; DISABLED keeps settings, history and next sequence. How the change waits for the blocks it is passed to is
the model's choice (log entry 5). -/
def Obligations.SupervisorStateEntry : Prop :=
  ∀ (i : SegIx) (s : State) (before after : List Raised) (old new : SegState) (reason : Option IsoReason),
    s.raised = before ++ .stateEntry i old new reason :: after → (∀ r ∈ before, ∀ x y z, r ≠ .stateEntry i x y z) →
    let c := s.sup i
    let ends (d : Supervision) (m : Mgmt) : Prop := exec (.supervisorStateEntry i) s = .next { s with
      sups := s.sups.set i d
      raised := before ++ after
      mgmt := m.takeNext }
    let window (d : Supervision) (st : SegState) : Supervision := { d with
      counts := ⟨0, 0, 0, 0, if d.live.jabber then 1 else 0⟩
      windowTimer := .running (d.settings.window * 100)
      windowState := st }
    let halted (d : Supervision) (st : SegState) : Supervision := { d with
      counts := ⟨0, 0, 0, 0, 0⟩
      windowTimer := .stopped
      windowState := st }
    let requested : FaultRecord := ⟨c.nextSeq, s.time.seconds, .requested, c.health, none⟩
    (new = .settling → ends (halted { c with
      latched := ⟨false, false, false⟩
      live := ⟨c.live.jabber, false, false⟩
      strikes := 0
      rejoins := 0 } .settling) s.mgmt) ∧
    (new = .forwarding → ends (window { c with mask := c.settings.maskWindows } .forwarding) s.mgmt) ∧
    (new = .testing → ends (halted c .testing) s.mgmt) ∧
    (new = .parked → ends (halted { c with mask := 0 } .parked) s.mgmt) ∧
    (new = .disabled → ends { State.reset.sup i with
      history := c.history
      nextSeq := c.nextSeq
      settings := c.settings } s.mgmt) ∧
    (new = .isolated → old = .testing ∨ old = .parked → ends (window c .isolated) s.mgmt) ∧
    (new = .isolated → old = .forwarding → reason ≠ some .requested →
      ends (window { c with mask := 0, rejoins := 0 } .isolated) s.mgmt) ∧
    (new = .isolated → old = .forwarding → reason = some .requested →
      ends { window { c with mask := 0, rejoins := 0 } .isolated with
        nextSeq := c.nextSeq + 1
        history := requested :: c.history.take 7 } (s.mgmt.noted (.fault i requested))) ∧
    (new = .isolated → old = .settling → c.live = ⟨false, false, false⟩ → reason = some .requested →
      ends { window { c with rejoins := 0 } .isolated with
        nextSeq := c.nextSeq + 1
        history := requested :: c.history.take 7 } (s.mgmt.noted (.fault i requested))) ∧
    (new = .isolated → old = .settling → c.live = ⟨true, false, false⟩ → c.latched = ⟨false, false, false⟩ →
      reason = some .requested → ∀ first second : FaultRecord,
        first = ⟨c.nextSeq, s.time.seconds, .condition .jabber, c.health, none⟩ →
        second = ⟨c.nextSeq + 1, s.time.seconds, .requested, c.health, none⟩ →
        ends { window { c with rejoins := 0 } .isolated with
          latched := ⟨true, false, false⟩
          nextSeq := c.nextSeq + 2
          history := second :: first :: c.history.take 6 } ((s.mgmt.noted (.fault i first)).noted (.fault i second))) ∧
    (new = .isolated → old = .settling → ∀ b, c.live = ⟨b, false, false⟩ → c.latched = ⟨false, false, false⟩ →
      reason = some (.fault .jabber) → ∀ record : FaultRecord,
        record = ⟨c.nextSeq, s.time.seconds, .condition .jabber, c.health, none⟩ →
        ends { window { c with rejoins := 0 } .isolated with
          latched := ⟨true, false, false⟩
          flaps := if c.flaps < 7 then c.flaps + 1 else c.flaps
          flapTimer := if c.flaps = 0 then .running 600000 else c.flapTimer
          nextSeq := c.nextSeq + 1
          history := record :: c.history.take 7 } (s.mgmt.noted (.fault i record)))

/-- E (R45) and S (R46) at every window expiry, masked or not, as the rules give them: E is 1,023 in a window with jabber, 0 in one
without events, and else (1024(C + 2K) + 256M) / (G + C + K), rounded down, 1,023 at most, kept as the last E; S goes from the old S
toward E by the difference over 2^k, rounded up, so that it lies between the old S and E, within 0 to 1,023. -/
def Obligations.HealthArithmetic : Prop :=
  (∀ (i : SegIx) (s : State), (s.sup i).windowTimer ≠ .stopped → ∃ t, exec (.windowExpiry i) s = .next t ∧
    (t.sup i).lastE = some (windowError (s.sup i).counts) ∧
    (t.sup i).health = healthStep (s.sup i).health (windowError (s.sup i).counts) (s.sup i).settings.shift) ∧
  (∀ w : WindowCounts,
    (1 ≤ w.j → windowError w = 1023) ∧ (w.j = 0 → w.g + w.c + w.k = 0 → windowError w = 0) ∧
    (w.j = 0 → 0 < w.g + w.c + w.k →
      (windowError w = 1023 ∧ 1023 * (w.g + w.c + w.k) ≤ 1024 * (w.c + 2 * w.k) + 256 * w.m) ∨
      (windowError w < 1023 ∧ windowError w * (w.g + w.c + w.k) ≤ 1024 * (w.c + 2 * w.k) + 256 * w.m ∧
        1024 * (w.c + 2 * w.k) + 256 * w.m < (windowError w + 1) * (w.g + w.c + w.k)))) ∧
  ∀ s e k : Nat,
    (s = e → healthStep s e k = s) ∧
    (s < e → s < healthStep s e k ∧ healthStep s e k ≤ e ∧
      e - s ≤ (healthStep s e k - s) * 2 ^ k ∧ (healthStep s e k - s) * 2 ^ k < e - s + 2 ^ k) ∧
    (e < s → e ≤ healthStep s e k ∧ healthStep s e k < s ∧
      s - e ≤ (s - healthStep s e k) * 2 ^ k ∧ (s - healthStep s e k) * 2 ^ k < s - e + 2 ^ k) ∧
    (s ≤ 1023 → e ≤ 1023 → healthStep s e k ≤ 1023)

/-- WINDOW_EXPIRY (R45 to R50, R53, R54): E and S from the counts; while the mask runs it counts down and HEALTH is not judged,
and at its end each condition live and not latched latches, JABBER, TX_BLOCKED, HEALTH in this order, with a fault record each
(R59, R60) and, in FORWARDING, one isolation order at most, for the first that orders one (R47, R53, R54); after it the strike
counter follows S, HEALTH is live while the strikes reach their limit and latches when it is newly so; a window that ran in
ISOLATED (log entry 14) drives the rejoin counter, which with no condition live, flaps below their limit, automatic rejoin on
and a reason other than REQUESTED raises a rejoin order; then the next window begins, J at 1 while JABBER is live. A window
timer that does not run has no expiry (log entry 2). How the change waits for the blocks it is passed to is the model's choice
(log entry 5). -/
def Obligations.WindowExpiry : Prop :=
  ∀ (i : SegIx) (s : State),
    let c := s.sup i
    let x := c.settings
    let e := windowError c.counts
    let h := healthStep c.health e x.shift
    let next (d : Supervision) : Supervision := { d with
      lastE := some e
      health := h
      counts := ⟨0, 0, 0, 0, if c.live.jabber then 1 else 0⟩
      windowTimer := .running (x.window * 100) }
    (c.windowTimer = .stopped → exec (.windowExpiry i) s = .next { s with mgmt := s.mgmt.takeNext }) ∧
    (c.windowTimer ≠ .stopped → 1 < c.mask → exec (.windowExpiry i) s = .next { s with
      sups := s.sups.set i (next { c with mask := c.mask - 1 })
      mgmt := s.mgmt.takeNext }) ∧
    (c.windowTimer ≠ .stopped → c.mask = 1 → (∀ k, c.live.get k = true → c.latched.get k = true) →
      exec (.windowExpiry i) s = .next { s with
        sups := s.sups.set i (next { c with mask := 0 })
        mgmt := s.mgmt.takeNext }) ∧
    (c.windowTimer ≠ .stopped → c.mask = 1 → ∀ found : List Condition,
      found = [Condition.jabber, .txBlocked, .health].filter (fun k => c.live.get k && !c.latched.get k) → found ≠ [] →
      let records : List FaultRecord := (List.range found.length).map fun n =>
        ⟨c.nextSeq + BitVec.ofNat 16 n, s.time.seconds, .condition (found.getD n .jabber), h, none⟩
      exec (.windowExpiry i) s = .next { s with
        sups := s.sups.set i (next { c with
          mask := 0
          latched := ⟨c.latched.jabber || c.live.jabber, c.latched.txBlocked || c.live.txBlocked, c.latched.health || c.live.health⟩
          nextSeq := c.nextSeq + BitVec.ofNat 16 found.length
          history := (records.reverse ++ c.history).take 8 })
        raised := s.raised ++
          match found.find? fun k => decide (c.windowState = .forwarding) && x.autoIsolate && x.isolateSet.get k with
          | some k => [.isolationOrder i k x.autoTest]
          | none => []
        mgmt := Mgmt.takeNext (records.foldl (fun m r => m.noted (.fault i r)) s.mgmt) }) ∧
    (c.windowTimer ≠ .stopped → c.mask = 0 →
      let strikes := if x.high ≤ h then (if c.strikes < 8 then c.strikes + 1 else c.strikes) else 0
      let ill : Bool := x.strikes ≤ strikes
      let latches : Bool := ill && !c.live.health && !c.latched.health && (c.windowState = .forwarding || c.windowState = .isolated)
      let record : FaultRecord := ⟨c.nextSeq, s.time.seconds, .condition .health, h, none⟩
      let rejoins := if c.windowState = .isolated
        then (if h ≤ x.low then (if c.rejoins < 32 then c.rejoins + 1 else c.rejoins) else 0) else c.rejoins
      let rejoin : Bool := c.windowState = .isolated && x.rejoinWindows ≤ rejoins && !c.live.jabber && !c.live.txBlocked && !ill &&
        c.flaps < x.flapLimit && x.autoRejoin && (s.port i).reason ≠ some .requested
      exec (.windowExpiry i) s = .next { s with
        sups := s.sups.set i (next { c with
          strikes := strikes
          rejoins := rejoins
          live := { c.live with health := ill }
          latched := if latches then { c.latched with health := true } else c.latched
          nextSeq := if latches then c.nextSeq + 1 else c.nextSeq
          history := if latches then record :: c.history.take 7 else c.history })
        raised := s.raised ++
          (if latches && c.windowState = .forwarding && x.autoIsolate && x.isolateSet.health then [.isolationOrder i .health x.autoTest] else []) ++
          if rejoin then [.rejoinOrder i] else []
        mgmt := Mgmt.takeNext (if latches then s.mgmt.noted (.fault i record) else s.mgmt) })

/-! ## The Line Tester -/

/-- The quiet checks and waits of a test (R71, R72): 1 ms of quiet in an attempt goes on to the stage that waited for it;
carrier in an attempt, or a probe disturbed, starts a 10 ms wait before the next of at most four attempts; its expiry begins
that attempt; a fourth failure ends the test LINE_BUSY (R78): TEST_RESULT, the segment back to its resume state (R32), its line
code and reason as that state has them, the change passed on (R23; how it waits is the model's choice, log entry 5), and the
tester free, which begins at once the automatic test of the lowest-numbered ISOLATED segment whose pending flag is set (R70; the
line code its notice gives, log entry 31). That a check fails, or a probe is disturbed, without carrier reported is log entry
41. Out of their stage the events change nothing (log entry 2; which attempt number stands during a wait, log entry 27). -/
def Obligations.QuietChecks : Prop :=
  ∀ (s : State) (c : TestContext), s.tester.context = some c →
    let now (d : TestContext) : Host.Outcome State Fault Refusal :=
      .next { s with tester := { s.tester with context := some d }, mgmt := s.mgmt.takeNext }
    let same : Host.Outcome State Fault Refusal := .next { s with mgmt := s.mgmt.takeNext }
    let checking : Prop := c.stage = .quietCheck ∧ c.wait = .stopped
    (checking → (s.port c.segment).carrier = false →
      exec .quietCheckPassed s = now { c with stage := if c.rangingDone then .trim else .ranging }) ∧
    (¬ checking ∨ (s.port c.segment).carrier = true → exec .quietCheckPassed s = same) ∧
    (checking → c.attempts < 4 → exec .quietCheckFailed s = now { c with wait := .running 10, raiseAfterWait := true }) ∧
    (¬ checking → exec .quietCheckFailed s = same) ∧
    (c.wait ≠ .stopped → exec .quietWaitExpiry s = now { c with
      wait := .stopped
      attempts := if c.raiseAfterWait then c.attempts + 1 else c.attempts
      raiseAfterWait := false }) ∧
    (c.wait = .stopped → exec .quietWaitExpiry s = same) ∧
    (c.stage ≠ .quietCheck → c.attempts < 4 → exec .probeDisturbed s = now { c with
      stage := .quietCheck
      attempts := c.attempts + 1
      wait := .running 10
      raiseAfterWait := false }) ∧
    (c.stage = .quietCheck → exec .probeDisturbed s = same) ∧
    ∀ k : Instr, (k = .quietCheckFailed ∧ checking) ∨ (k = .probeDisturbed ∧ c.stage ≠ .quietCheck) → 4 ≤ c.attempts →
      s.portsWf = true → ∀ u, u = s.testEnded c.segment c.parkedBefore (s.reportOf c .lineBusy) →
      exec k s = .next { u with mgmt := u.mgmt.takeNext }

/-- RANGING_COMPLETE (R73 to R75, R78): the echo is the first excursion of the line within the window that reaches 10% of the
probe; its kind and time are judged, its distance is (T × VF × 75 + 5000) / 10000 decimetres, rounded down, and the segment's
capture is written, the one before it kept as the previous one. A trim search asked for goes on with its first trial code;
without one the test ends CLEAN; OPEN and SHORT end it with a fault record that carries the distance, and the segment goes to
PARKED. TRIM_PROBE_COMPLETE (R76, R77): a trial code whose 2,400 over code ohms is above the line's impedance is kept, the next
lower bit is tried, and after bit 0 the test ends CLEAN with the accepted code, which becomes the trim code unless it is 0. The
test's end is its TEST_RESULT (R82), the segment's change, passed on (R23, R32), and the tester free for a pending test (R70).
Out of their stage the events change nothing (log entry 2). What the circuits measure comes as operands (log entry 23), how
changes wait (log entry 5), the line code of a notice (log entry 31), and that both complete whatever carrier is reported (R72; log
entry 41), are the model's choices. -/
def Obligations.RangingAndTrim : Prop :=
  ∀ (s : State) (c : TestContext), s.tester.context = some c → s.portsWf = true →
    let i := c.segment
    (c.stage ≠ .ranging → ∀ probe line, exec (.rangingComplete ⟨probe, line⟩) s = .next { s with mgmt := s.mgmt.takeNext }) ∧
    (c.stage ≠ .trim → ∀ a b, exec (.trimProbeComplete a b) s = .next { s with mgmt := s.mgmt.takeNext }) ∧
    (c.stage = .ranging → ∀ (probe : Nat) (line : List Excursion) (kind : EchoKind) (time : Nat),
      let small (x : Excursion) : Prop := 10 * x.peak < probe ∨ 4095 ≤ x.count
      (kind = .noEcho ∧ time = 4095 ∧ ∀ x ∈ line, small x) ∨
        (∃ before m after, line = before ++ m :: after ∧ (∀ x ∈ before, small x) ∧ probe ≤ 10 * m.peak ∧ m.count ≤ 4094 ∧
          time = m.count ∧
          ((probe ≤ 2 * m.peak ∧ m.negative = false ∧ kind = .openEnd) ∨
            (probe ≤ 2 * m.peak ∧ m.negative = true ∧ kind = .shortEnd) ∨ (2 * m.peak < probe ∧ kind = .mismatch))) →
      ∀ (capture : Capture) (ranged : State),
        capture = ⟨time, kind, (s.sup i).settings.vf, (time * (s.sup i).settings.vf * 75 + 5000) / 10000, s.time.seconds⟩ →
        ranged = { s with tester := { s.tester with
          captures := s.tester.captures.set i ⟨some capture, (s.tester.captures.get i).current⟩ } } →
        let report (outcome : TestOutcome) : Notice := .testResult
          ⟨i, c.cause, outcome, c.attempts, c.trimRequested, some capture, (s.tester.captures.get i).current, none⟩
        (kind = .openEnd ∨ kind = .shortEnd → ∀ (record : FaultRecord) (u : State),
          record = ⟨(s.sup i).nextSeq, s.time.seconds, if kind = .openEnd then .openLine else .shortLine, (s.sup i).health,
            some capture.distance⟩ →
          u = State.testEnded { ranged with
              sups := s.sups.set i { s.sup i with
                nextSeq := (s.sup i).nextSeq + 1
                history := record :: (s.sup i).history.take 7 }
              mgmt := s.mgmt.noted (.fault i record) }
            i true (report (if kind = .openEnd then .openEnd else .shortEnd)) →
          exec (.rangingComplete ⟨probe, line⟩) s = .next { u with mgmt := u.mgmt.takeNext }) ∧
        (kind = .mismatch ∨ kind = .noEcho → c.trimRequested = true → exec (.rangingComplete ⟨probe, line⟩) s = .next { ranged with
          ports := s.ports.set i { s.port i with lineCode := c.trial }
          tester := { ranged.tester with context := some { c with rangingDone := true, stage := .trim } }
          mgmt := s.mgmt.takeNext }) ∧
        (kind = .mismatch ∨ kind = .noEcho → c.trimRequested = false → ∀ u,
          u = State.testEnded { ranged with
              sups := s.sups.set i { s.sup i with live := { (s.sup i).live with txBlocked := false } } }
            i c.parkedBefore (report .clean) →
          exec (.rangingComplete ⟨probe, line⟩) s = .next { u with mgmt := u.mgmt.takeNext })) ∧
    (c.stage = .trim → ∀ a b : Nat, 0 < a → 0 < b → ∀ trial kept : LoadCode, trial = c.accepted + BitVec.twoPow 6 c.bit →
      (2400 * b > a * trial.toNat ∧ kept = trial) ∨ (2400 * b ≤ a * trial.toNat ∧ kept = c.accepted) →
      (0 < c.bit → exec (.trimProbeComplete a b) s = .next { s with
        ports := s.ports.set i { s.port i with lineCode := kept + BitVec.twoPow 6 (c.bit - 1) }
        tester := { s.tester with context := some { c with accepted := kept, bit := c.bit - 1 } }
        mgmt := s.mgmt.takeNext }) ∧
      (c.bit = 0 → ∀ (code : LoadCode) (u : State), code = (if kept = 0 then (s.port i).trim else kept) →
        u = State.testEnded { s with
            ports := s.ports.set i { s.port i with trim := code }
            sups := s.sups.set i { s.sup i with live := { (s.sup i).live with txBlocked := false } } }
          i c.parkedBefore (.testResult
            { segment := i, cause := c.cause, outcome := .clean, attempts := c.attempts
              trimRequested := c.trimRequested
              ranging := if c.rangingDone then (s.tester.captures.get i).current else none
              previous := if c.rangingDone then (s.tester.captures.get i).previous else none
              trim := some (c.prior, code, kept = 0) }) →
        exec (.trimProbeComplete a b) s = .next { u with mgmt := u.mgmt.takeNext }))

/-- The trim search finds what it looks for (R76, R77): six probes, bit 5 to bit 0, leave the segment with the greatest code
whose 2,400 over code ohms is above the line's impedance a / b as its trim code, or with the trim code it had when there is
none. The impedance is an operand, a ratio, and a probe completes whatever carrier is reported, which are the model's choices (log
entries 23 and 41). -/
def Obligations.TrimSearchFindsTheGreatestCode : Prop :=
  ∀ (s : State) (c : TestContext) (a b : Nat), s.tester.context = some c → c.stage = .trim → c.accepted = 0 → c.bit = 5 → 0 < a → 0 < b →
    ∃ (at_ : Nat → State) (d : TestContext) (best : LoadCode), at_ 0 = s ∧
      (∀ n, n < 6 → exec (.trimProbeComplete a b) (at_ n) = .next (at_ (n + 1))) ∧
      (at_ 5).tester.context = some d ∧ d.stage = .trim ∧ d.bit = 0 ∧
      best = (if 2400 * b > a * (d.accepted + 1).toNat then d.accepted + 1 else d.accepted) ∧
      ((at_ 6).port c.segment).trim = (if best = 0 then (s.port c.segment).trim else best) ∧
      (best ≠ 0 → 2400 * b > a * best.toNat) ∧ ∀ code : LoadCode, best.toNat < code.toNat → 2400 * b ≤ a * code.toNat

/-! ## Aging -/

/-- AGING_TIMER_EXPIRY (R91 to R93): every entry is one unit older, its sides' silence saturating at 10. ACTIVE turns QUIET at 2;
ACTIVE or QUIET, neither pinned nor held, departs at 10 with STATION_DEPARTED; a DUPLICATE entry with a side at 2 keeps the side
still below it, or goes QUIET on its first side, with CONFLICT_CLEARED. Every violation flag is cleared, the timer runs again for
the aging unit, and each entry that changed state is a station change, in ascending order. Stated for a table in its form (R84); a
timer that does not run has no expiry (log entry 2). How
the change waits for the blocks it is passed to is the model's choice (log entry 5). -/
def Obligations.AgingTimerExpiry : Prop :=
  ∀ s : State, (s.table.agingTimer = .stopped → exec .agingTimerExpiry s = .next { s with mgmt := s.mgmt.takeNext }) ∧
    (s.table.agingTimer ≠ .stopped → s.table.wf = true →
      let older (a : Side) : Side := { a with silence := min 10 (a.silence + 1) }
      let departs (e : Station) (a : Side) : Bool := 9 ≤ a.silence && !e.pinned && !e.held
      let next (e : Station) : Station := match e.known with
        | .empty => { e with violation := false }
        | .active a => if departs e a then ⟨.empty, false, false, false⟩
          else { e with known := if a.silence = 0 then .active (older a) else .quiet (older a), violation := false }
        | .quiet a => if departs e a then ⟨.empty, false, false, false⟩
          else { e with known := .quiet (older a), violation := false }
        | .duplicate a b => { e with
            known := if a.silence = 0 ∧ b.silence = 0 then .duplicate (older a) (older b)
              else if a.silence = 0 then .active (older a)
              else if b.silence = 0 then .active (older b)
              else .quiet (older a)
            violation := false }
      let changes (e : Station) : Bool := match e.known with
        | .empty => false
        | .active a => decide (a.silence ≠ 0)
        | .quiet a => departs e a
        | .duplicate a b => decide (a.silence ≠ 0 ∨ b.silence ≠ 0)
      let notice (n : Byte) (e : Station) : Option Notice := match e.known with
        | .empty => none
        | .active a => if departs e a then some (.stationDeparted n a.segment none false) else none
        | .quiet a => if departs e a then some (.stationDeparted n a.segment none false) else none
        | .duplicate a b => if a.silence = 0 ∧ b.silence = 0 then none
          else some (.conflictCleared n (if a.silence ≠ 0 ∧ b.silence = 0 then b.segment else a.segment) false)
      ∃ t, exec .agingTimerExpiry s = .next t ∧
        t = { s with
          table := { s.table with
            entries := t.table.entries
            flags0 := ⟨false, false, false, false⟩
            flags255 := ⟨false, false, false, false⟩
            agingTimer := .running (s.table.agingUnit * 1000) }
          raised := s.raised ++
            (s.table.entries.filter fun e => changes e.2).map fun e => .stationChange (BitVec.ofNat 8 e.1)
          mgmt := Mgmt.takeNext ((s.table.entries.filterMap fun e => notice (BitVec.ofNat 8 e.1) e.2).foldl Mgmt.noted s.mgmt) } ∧
        ∀ n, t.table.entry n = next (s.table.entry n))

/-! ## Uplink events -/

/-- UPLINK_UP, UPLINK_DOWN (R117): the link state changes, with UPLINK_STATE and an uplink change for Printer Delivery; going
DOWN, both queues are flushed and counted first, each flushed entry dropping its reference (R126). UPLINK_TRANSMIT_START (R118,
R119): the head of the service queue, or else of the transit queue, goes out as a tunnel frame: destination MAC, the source's
proxy address, EtherType, version, header, payload, pad to 60 bytes, FCS. UPLINK_SEND_DONE (R118): counted as sent or failed,
the entry leaves its queue and a stored frame loses one reference. With nothing to send or no current entry nothing changes (log
entry 2). When an entry is taken is inferred (log entry 35). How the change waits for the blocks it is passed to is the model's
choice (log entry 5). -/
def Obligations.UplinkEvents : Prop :=
  ∀ s : State,
    (s.uplink.up = false → exec .uplinkUp s = .next { s with
      uplink := { s.uplink with up := true }
      raised := s.raised ++ [.uplinkChange]
      mgmt := (s.mgmt.noted (.uplinkState true)).takeNext } ∧
      exec .uplinkDown s = .next { s with mgmt := s.mgmt.takeNext }) ∧
    (s.uplink.up = true → exec .uplinkUp s = .next { s with mgmt := s.mgmt.takeNext } ∧
      ∃ t, exec .uplinkDown s = .next t ∧ s.refsDropped t ((s.uplink.service ++ s.uplink.transit).map QEntry.source) ∧ t = { s with
        uplink := { s.uplink with
          up := false
          service := []
          transit := []
          current := none
          counters := { s.uplink.counters with
            flushed := s.uplink.counters.flushed + BitVec.ofNat 32 (s.uplink.service.length + s.uplink.transit.length) } }
        pool := t.pool
        raised := s.raised ++ [.uplinkChange]
        mgmt := (s.mgmt.noted (.uplinkState false)).takeNext }) ∧
    (∀ (service : Bool) (e : QEntry Mac), s.uplink.current = none →
      (service = true ∧ s.uplink.service.head? = some e) ∨
        (service = false ∧ s.uplink.service = [] ∧ s.uplink.transit.head? = some e) →
      ∃ bare padded, bare = macBytes e.dest ++ macBytes (proxyMac s.table.proxyBase e.header.src) ++
          nat2 s.uplink.etherType.toNat ++ [0x01] ++ e.header.bytes ++ s.payloadOf e.header e.source ∧
        padded = bare ++ List.replicate (60 - bare.length) 0 ∧
        exec .uplinkTransmitStart s = .next { s with
          uplink := { s.uplink with current := some ⟨service, padded ++ fcsBytes padded⟩ }
          mgmt := s.mgmt.takeNext }) ∧
    (s.uplink.current ≠ none ∨ (s.uplink.service = [] ∧ s.uplink.transit = []) →
      exec .uplinkTransmitStart s = .next { s with mgmt := s.mgmt.takeNext }) ∧
    (∀ sent, s.uplink.current = none → exec (.uplinkSendDone sent) s = .next { s with mgmt := s.mgmt.takeNext }) ∧
    ∀ (sent : Bool) (c : UplinkCurrent) (e : QEntry Mac), s.uplink.current = some c →
      (if c.service then s.uplink.service else s.uplink.transit).head? = some e →
      ∃ t, exec (.uplinkSendDone sent) s = .next t ∧
        t = { s with
          uplink := { s.uplink with
            service := if c.service then s.uplink.service.drop 1 else s.uplink.service
            transit := if c.service then s.uplink.transit else s.uplink.transit.drop 1
            current := none
            counters := if sent then { s.uplink.counters with framesOut := s.uplink.counters.framesOut + 1 }
              else { s.uplink.counters with sendFailures := s.uplink.counters.sendFailures + 1 } }
          pool := { s.pool with frames := t.pool.frames }
          mgmt := s.mgmt.takeNext } ∧
        ((∀ f, e.source ≠ .stored f) → t.pool = s.pool) ∧
        ∀ f record, e.source = .stored f → tableGet s.pool.frames f = some record →
          tableGet t.pool.frames f = (if record.refs ≤ 1 then none else some { record with refs := record.refs - 1 }) ∧
          ∀ g, g ≠ f → tableGet t.pool.frames g = tableGet s.pool.frames g

/-- TUNNEL_FRAME_RECEIVED (R117, R120, R121, R122): with the link DOWN, or for a MAC that is neither broadcast nor a proxy
address, nothing is received; a bad FCS counts as corrupt, another EtherType as foreign, another version or a frame that ends
before it as a bad tunnel, one with fewer than 6 bytes after it, a trunk length above 512, a body shorter than that length or,
past 60 bytes, longer, as corrupt, a sender that is no alias as unknown; a pad within 60 bytes is ignored. A good DATA frame
from an alias's MAC for a station on a FORWARDING segment with room is counted in, its source number set to the alias's, stored,
and put last in that segment's transit queue (R112, R114). Which free pages are taken, and what becomes of a frame that ends
before its EtherType is whole, is the model's choice (log entries 9 and 30). -/
def Obligations.TunnelFrameReceived : Prop :=
  ∀ s : State,
    let counts (bytes : List Byte) (c : UplinkCounters) : Prop := exec (.tunnelFrameReceived bytes) s = .next { s with
      uplink := { s.uplink with counters := c }
      mgmt := s.mgmt.takeNext }
    let x := s.uplink.counters
    let ours (m : Mac) : Prop := m = 0xFFFFFFFFFFFF ∨ m.extractLsb' 8 40 = s.table.proxyBase.extractLsb' 8 40
    (∀ bytes, s.uplink.up = false ∨ bytes.length < 6 → counts bytes x) ∧
    (∀ m rest, ¬ ours m → counts (macBytes m ++ rest) x) ∧
    (s.uplink.up = true → ∀ m, ours m →
      (∀ rest, (macBytes m ++ rest).drop (2 + rest.length) ≠ fcsBytes ((macBytes m ++ rest).take (2 + rest.length)) →
        counts (macBytes m ++ rest) { x with corrupt := x.corrupt + 1 }) ∧
      (∀ rest bare, bare = macBytes m ++ rest → rest.length < 8 → counts (bare ++ fcsBytes bare) { x with foreign := x.foreign + 1 }) ∧
      ∀ (sender : Mac) (kind : Half) (rest bare : List Byte), bare = macBytes m ++ macBytes sender ++ nat2 kind.toNat ++ rest →
        (kind ≠ s.uplink.etherType → counts (bare ++ fcsBytes bare) { x with foreign := x.foreign + 1 }) ∧
        (kind = s.uplink.etherType → rest.head? ≠ some 0x01 →
          counts (bare ++ fcsBytes bare) { x with badTunnel := x.badTunnel + 1 }) ∧
        (∀ body, kind = s.uplink.etherType → rest = 0x01 :: body → body.length < 6 →
          counts (bare ++ fcsBytes bare) { x with corrupt := x.corrupt + 1 }) ∧
        (∀ (h : Header) (body : List Byte), kind = s.uplink.etherType → rest = [0x01] ++ h.bytes ++ body →
          512 < h.len.toNat ∨ body.length < h.len.toNat ∨ (h.len.toNat < body.length ∧ 60 < bare.length) →
          counts (bare ++ fcsBytes bare) { x with corrupt := x.corrupt + 1 }) ∧
        ∀ (h : Header) (p pad : List Byte), kind = s.uplink.etherType → h.len.toNat = p.length → p.length ≤ 512 →
          rest = [0x01] ++ h.bytes ++ p ++ pad → pad = [] ∨ bare.length ≤ 60 →
          ((∀ a ∈ s.table.aliases, a.2.mac ≠ sender) →
            counts (bare ++ fcsBytes bare) { x with unknownSender := x.unknownSender + 1 }) ∧
          ∀ (a : Nat × AliasEntry) (b : Side), s.pagesWf = true → s.aliasOfMac sender = some a → h.typ = 0x01 →
            h.dst ≠ 0 → h.dst ≠ 255 → ¬ s.claimed h.dst →
            (s.table.entry h.dst).known = .active b ∨ (s.table.entry h.dst).known = .quiet b →
            (s.port b.segment).state = .forwarding → (s.port b.segment).transit.length < 32 →
            (6 + p.length + 255) / 256 ≤ s.freePages →
            ∃ t pages, exec (.tunnelFrameReceived (bare ++ fcsBytes bare)) s = .next t ∧
              pages = s.choosePages ((6 + p.length + 255) / 256) ∧
              t = { s with
                ports := t.ports
                uplink := { s.uplink with counters := { x with framesIn := x.framesIn + 1 } }
                pool := { s.pool with mem := t.pool.mem, frames := t.pool.frames, lowestFree := t.pool.lowestFree }
                mgmt := s.mgmt.takeNext } ∧
              (∀ j, j ≠ b.segment → t.port j = s.port j) ∧
              t.port b.segment = { s.port b.segment with
                transit := (s.port b.segment).transit ++
                  [⟨.stored (pages.headD 0), { h with src := a.2.number }, BitVec.twoPow 3 b.sync.val⟩]
                current := (t.port b.segment).current } ∧
              tableGet t.pool.frames (pages.headD 0) = some ⟨pages, 1⟩ ∧
              streamRead t.pool.mem pages 0 (6 + p.length) = [h.dst, a.2.number, h.typ, h.ctl] ++ nat2 h.len.toNat ++ p ∧
              s.bytesKeptBut t (fun y => ∃ n, n < 6 + p.length ∧ y = 256 * pages.getD (n / 256) 0 + n % 256))

/-! ## Printing events -/

/-- JOB_CHANGE_TAKEN (R138, R153 to R156): the oldest change is taken. A job that waits alone in its group is bound when it is
CLOSED, or OPEN with the pages the bind threshold asks for: in an ORDERED group to the first eligible member with an empty
queue, in a BALANCED one to the eligible member of the smallest drain estimate, the lowest number on a tie. On a READY printer
it starts, at the printer's next sequence, and its first block, if it has one, goes to the printer's station: its first page's
bytes, FIRST while nothing is delivered, LAST when no page is left after it, the block timer running; the printer is found BUSY.
Behind a head that is PRINTING or ENDING it is placed by urgency. A bound PRINTING head with no block in flight sends the block
the change gives it. A change of a job that is gone, with no group to try, changes nothing more; with none on its way nothing
changes (log entry 2). That one notice says BUSY is inferred (log entry 16), the queue of changes is the model's choice (log
entry 5). -/
def Obligations.JobChangeTaken : Prop :=
  ∀ s : State,
    ((∀ n g, .jobChange n g ∉ s.raised) → exec .jobChangeTaken s = .next { s with mgmt := s.mgmt.takeNext }) ∧
    ∀ before after (n : Half) (group : Option Nat), s.raised = before ++ .jobChange n group :: after →
      (∀ r ∈ before, ∀ m g, r ≠ .jobChange m g) →
      let same : Prop := exec .jobChangeTaken s = .next { s with
        raised := before ++ after
        mgmt := s.mgmt.takeNext }
      let ends (u : State) (k : Job) (p : Nat) (e : Printer) (m : Mgmt) : Prop := exec .jobChangeTaken s = .next { u with
        raised := before ++ after
        intake := { s.intake with jobs := s.intake.jobs.map fun x => if x.number = n then k else x }
        delivery := { s.delivery with printers := tablePut s.delivery.printers p e }
        mgmt := m.takeNext }
      (s.job n = none → group = none → same) ∧
      (∀ (j : Job) (g : Nat) (grp : Group),
        s.job n = some j → group = some g → g < 8 → s.group g = some grp → s.waitList g = [j] → j.printer = none →
        let able (q : Nat) (e : Printer) : Prop :=
          s.printer q = some e ∧ s.unreachable e.station = none ∧ e.pause = PauseSet.clear
        let drain (e : Printer) : Nat := ((e.queue.filterMap s.job).map fun k => k.received - k.delivered).sum * 1000 / e.rate
        let bindable : Prop := j.isOpen = false ∨
          (1 ≤ grp.threshold ∧ max 1 (grp.threshold * s.pool.quota / 8) ≤ j.chain.length)
        (¬ bindable → same) ∧
        ((∀ q ∈ grp.members, ∀ e, able q e → grp.balanced = false ∧ e.queue ≠ []) → same) ∧
        ∀ (p : Nat) (e : Printer), bindable → p ∈ grp.members → able p e →
          (grp.balanced = true ∧ ∀ q ∈ grp.members, ∀ d, able q d → drain e < drain d ∨ (drain e = drain d ∧ p ≤ q)) ∨
            (grp.balanced = false ∧ e.queue = [] ∧
              ∃ pre post, grp.members = pre ++ p :: post ∧ ∀ q ∈ pre, ∀ d, able q d → d.queue ≠ []) →
          e.foundReason = none → e.foundPause = PauseSet.clear →
          (e.queue = [] → e.flight = none → e.found = .ready →
            let started : Job := { j with
              delivery := .printing
              printer := some p
              printerSeq := e.nextSeq }
            let busy := s.mgmt.noted (.printerState p e.station .ready .busy none PauseSet.clear)
            (j.hasBlock = false → ends s started p { e with queue := [n], found := .busy } busy) ∧
            (j.hasBlock = true → ∀ u, s.blockOffered e.station (j.block e.nextSeq) u →
              ends u { started with blockOffered := true } p
                { e with
                  queue := [n]
                  flight := some (j.block e.nextSeq)
                  blockTimer := .running e.blockTimeout
                  found := .busy } busy)) ∧
          ∀ head rest k, e.queue = head :: rest → s.job head = some k → k.delivery = .printing ∨ k.delivery = .ending →
            e.found = .busy → ∀ queue,
            (j.urgent = true ∧ ∃ us ns, rest = us ++ ns ∧ (∀ m ∈ us, ∃ x, s.job m = some x ∧ x.urgent = true) ∧
                (∀ m, ns.head? = some m → ∀ x, s.job m = some x → x.urgent = false) ∧ queue = head :: us ++ n :: ns) ∨
              (j.urgent = false ∧ queue = e.queue ++ [n]) →
            ends s { j with delivery := .queued, printer := some p } p { e with queue := queue } s.mgmt) ∧
      ∀ (j : Job) (p : Nat) (e : Printer), s.job n = some j → j.printer = some p → s.printer p = some e → e.queue.head? = some n →
        j.delivery = .printing → s.unreachable e.station = none → e.pause = PauseSet.clear → e.found = .busy →
        e.foundReason = none → e.foundPause = PauseSet.clear → (∀ k ∈ s.intake.jobs, k.delivery ≠ .waiting) →
        (e.flight ≠ none ∨ j.hasBlock = false → same) ∧
        (e.flight = none → j.hasBlock = true → ∀ u, s.blockOffered e.station (j.block j.printerSeq) u →
          ends u { j with blockOffered := true } p
            { e with
              flight := some (j.block j.printerSeq)
              blockTimer := .running e.blockTimeout } s.mgmt)

/-- PRINTER_EVALUATION (R104, R151): the oldest station, segment or uplink change, or job ended on a printer, is taken, and the
printers it concerns are evaluated: with nothing queued a printer is UNREACHABLE with its reason, else PAUSED with a pause reason,
else READY, stated while no job waits. With jobs in the queue a READY printer's QUEUED or HELD head starts and sends its block (R156);
an UNREACHABLE one's PRINTING head goes HELD and its ENDING head finishes with its pending outcome or UNCONFIRMED; from an UNREACHABLE
or PAUSED one the QUEUED jobs and an undelivered HELD head whose group rebinds go back to wait, with a JOB_ABORT where one is due
(R160, R164); stated where no waiting job is then to be bound. What is newly found is kept and said in PRINTER_STATE. A station change
of a number no printer has changes nothing more, and with no change on its way nothing changes (log entry 2). That a job ended on a
printer calls for such an event of its own (log entry 17), that one evaluation passes one notice (log entry 16) and that the flight and
the timers go with the head (log entry 19) is inferred; which change comes first, and that the printers are taken in ascending order,
is the model's choice (log entries 5 and 43). -/
def Obligations.PrinterEvaluation : Prop :=
  ∀ s : State, s.delivery.wf = true →
    ((∀ r ∈ s.raised, Raised.evaluationOf r = none) → exec .printerEvaluation s = .next { s with mgmt := s.mgmt.takeNext }) ∧
    ∀ before (r : Raised) after, s.raised = before ++ r :: after → (∀ x ∈ before, Raised.evaluationOf x = none) →
      let found (e : Printer) : PrinterState := if s.unreachable e.station ≠ none then .unreachable
        else if e.pause ≠ PauseSet.clear then .paused else .ready
      let evaluated (e : Printer) : Printer :=
        { e with found := found e, foundReason := s.unreachable e.station, foundPause := e.pause }
      let noted (m : Mgmt) (p : Nat) (e : Printer) : Mgmt :=
        if evaluated e = e then m
        else m.noted (.printerState p e.station e.found (found e) (s.unreachable e.station) e.pause)
      let quiet : Prop := (∀ j ∈ s.intake.jobs, j.delivery ≠ .waiting) ∧ ∀ q ∈ s.delivery.printers, q.2.queue = []
      let ends (t : State) : Prop := exec .printerEvaluation s = .next { t with
        raised := before ++ after
        mgmt := t.mgmt.takeNext }
      (∀ n, r = .stationChange n → ¬ s.named n → ends s) ∧
      (∀ p e, s.printer p = some e → (r = .jobEnded p ∨ (r = .stationChange e.station ∧ s.printerOf e.station = some (p, e))) →
        (quiet → exec .printerEvaluation s = .next { s with
          raised := before ++ after
          delivery := { s.delivery with printers := tablePut s.delivery.printers p (evaluated e) }
          mgmt := (noted s.mgmt p e).takeNext }) ∧
        ∀ t, s.evaluatesTo p e t → t.bindsNothing → ends t) ∧
      (r = .uplinkChange ∨ (∃ i, r = .segmentChange i) →
        (quiet → exec .printerEvaluation s = .next { s with
          raised := before ++ after
          delivery := { s.delivery with printers := s.delivery.printers.map fun q => (q.1, evaluated q.2) }
          mgmt := (s.delivery.printers.foldl (fun m q => noted m q.1 q.2) s.mgmt).takeNext }) ∧
        ∀ t, s.evaluatesAllTo (s.delivery.printers.map Prod.fst) t → t.bindsNothing → ends t)

/-- BLOCK_TIMER_EXPIRY and RETRY_TIMER_EXPIRY (R158): the block in flight of a PRINTING job is sent again under the gateway number
in force (log entry 18), at most three times in a row by the block timer; the fourth expiry gives NO_RESPONSE and leaves a
part-delivered job HELD, while one with nothing delivered, its group's rebind flag on, is stopped by JOB_ABORT and goes back to wait
(R164); for a HELD job the block in flight just ends. END_TIMER_EXPIRY (R160): an ENDING job finishes with its pending outcome or
UNCONFIRMED, and NO_END is added. A timer that does not run has no expiry (log entry 2). A frame to the gateway number from a
printer's number, from either origin (R108): a BLOCK_ACK (R157) that answers no outstanding block is ignored, as are those of no
printer; ACCEPTED delivers the block and the next goes out, or the job goes to ENDING; RETRY waits 200 ms; REFUSED is an expiry.
PRINTER_STATUS (R162): READY, OFFLINE, PAPER_OUT, END_OF_JOB, the last finishing the job PRINTED with the rate estimate of R161.
Stated for a reachable printer whose queue is its head alone, while no job waits. Clearing the flight, the resends and the timers
when the head leaves is inferred (log entry 19). -/
def Obligations.PrinterTimers : Prop :=
  (∀ (p : Fin 16) (s : State),
    ((∀ e, s.printer p.val = some e → e.blockTimer = .stopped) →
      exec (.blockTimerExpiry p) s = .next { s with mgmt := s.mgmt.takeNext }) ∧
    ((∀ e, s.printer p.val = some e → e.retryTimer = .stopped) →
      exec (.retryTimerExpiry p) s = .next { s with mgmt := s.mgmt.takeNext }) ∧
    ((∀ e, s.printer p.val = some e → e.endTimer = .stopped) →
      exec (.endTimerExpiry p) s = .next { s with mgmt := s.mgmt.takeNext }) ∧
    (∀ (e : Printer) (j : Job) (f : Flight) (c : Instr) (e' : Printer), s.printer p.val = some e → s.job j.number = some j →
      e.queue = [j.number] → j.printer = some p.val → (∀ k ∈ s.intake.jobs, k.delivery ≠ .waiting) → j.delivery = .held →
      e.flight = some f → s.unreachable e.station ≠ none ∨ e.pause ≠ PauseSet.clear →
      e.found = (if s.unreachable e.station = none then .paused else .unreachable) → e.foundReason = s.unreachable e.station →
      e.foundPause = e.pause → 0 < j.delivered ∨ s.rebinds j = false →
      (c = .blockTimerExpiry p ∧ e.blockTimer ≠ .stopped ∧ e' = { e with flight := none, blockTimer := .stopped }) ∨
        (c = .retryTimerExpiry p ∧ e.retryTimer ≠ .stopped ∧ e' = { e with flight := none, retryTimer := .stopped }) →
      exec c s = .next { s with
        delivery := { s.delivery with printers := tablePut s.delivery.printers p.val e' }
        mgmt := s.mgmt.takeNext }) ∧
    ∀ (e : Printer) (j : Job), s.printer p.val = some e → s.job j.number = some j → e.queue = [j.number] →
      j.printer = some p.val → (∀ k ∈ s.intake.jobs, k.delivery ≠ .waiting) → s.unreachable e.station = none →
      e.pause = PauseSet.clear → e.found = .busy → e.foundReason = none → e.foundPause = PauseSet.clear →
      (∀ (f : Flight) (c : Instr) (e' : Printer), j.delivery = .printing → e.flight = some f →
        (c = .blockTimerExpiry p ∧ e.blockTimer ≠ .stopped ∧ e.resends < 3 ∧
            e' = { e with resends := e.resends + 1, blockTimer := .running e.blockTimeout }) ∨
          (c = .retryTimerExpiry p ∧ e.retryTimer ≠ .stopped ∧
            e' = { e with
              flight := some { f with outstanding := true }
              retryTimer := .stopped
              blockTimer := .running e.blockTimeout }) →
        ∀ u, s.blockOffered e.station f u → exec c s = .next { u with
          delivery := { s.delivery with printers := tablePut s.delivery.printers p.val e' }
          mgmt := s.mgmt.takeNext }) ∧
      (∀ (f : Flight) (pause : PauseSet) (paused : Printer) (m : Mgmt), j.delivery = .printing → e.flight = some f →
        e.blockTimer ≠ .stopped → 3 ≤ e.resends → pause = { PauseSet.clear with noResponse := true } →
        paused = { e with
          flight := none
          resends := 0
          blockTimer := .stopped
          pause := pause
          found := .paused
          foundPause := pause } →
        m = (s.mgmt.noted (.printerState p.val e.station .busy .paused none pause)).takeNext →
        (0 < j.delivered ∨ s.rebinds j = false → exec (.blockTimerExpiry p) s = .next { s with
          intake := { s.intake with jobs := s.intake.jobs.map fun k => if k.number = j.number then { j with delivery := .held } else k }
          delivery := { s.delivery with printers := tablePut s.delivery.printers p.val paused }
          mgmt := m }) ∧
        ∀ (g : Nat) (grp : Group) (page : Nat) (u : State), j.delivered = 0 → j.group = some g → s.group g = some grp →
          grp.rebind = true → (∀ q ∈ grp.members, q ≠ p.val → ∀ d, s.printer q = some d → s.unreachable d.station ≠ none ∨
            d.pause ≠ PauseSet.clear) →
          j.chain.head? = some page → (∀ i, ∀ x ∈ (s.port i).service, x.isPage page = false) →
          (∀ x ∈ s.uplink.service, x.isPage page = false) →
          (j.blockOffered = false ∧ u = s) ∨
            (j.blockOffered = true ∧ s.offeredTo e.station .nothing ⟨e.station, s.table.gateway, 0x13, 0, 0⟩ u) →
          exec (.blockTimerExpiry p) s = .next { u with
            intake := { s.intake with jobs := s.intake.jobs.map fun k => if k.number = j.number then { j with
              delivery := .waiting
              printer := none
              blockOffered := false } else k }
            delivery := { s.delivery with printers := tablePut s.delivery.printers p.val { paused with
              queue := []
              retryTimer := .stopped
              endTimer := .stopped } }
            mgmt := m }) ∧
      (j.delivery = .ending → e.endTimer ≠ .stopped → j.chain = [] → j.pendingOutcome ≠ some .printed →
        ∃ (pause : PauseSet) (report : JobReport), pause = { PauseSet.clear with noEnd := true, stopped := e.stopAfter } ∧
          report = ⟨j.number, j.pendingOutcome.getD .unconfirmed, j.source, j.origin, j.service, j.urgent, j.received, j.delivered,
            some (p.val, e.station)⟩ ∧
          exec (.endTimerExpiry p) s = .next { s with
            intake := { s.intake with jobs := s.intake.jobs.filter fun k => k.number ≠ j.number }
            delivery := { s.delivery with printers := tablePut s.delivery.printers p.val { e with
              queue := []
              flight := none
              resends := 0
              blockTimer := .stopped
              retryTimer := .stopped
              endTimer := .stopped
              pause := pause
              found := .paused
              foundPause := pause } }
            mgmt := ((s.mgmt.noted (.jobDone report)).noted
              (.printerState p.val e.station .busy .paused none pause)).takeNext })) ∧
  ∀ (c : Instr) (o : Origin) (back : Route) (h : Header) (p : List Byte) (s base : State),
    s.arrives c o back h p base → h.dst ≠ 0 → h.dst ≠ 255 → h.dst = s.table.gateway → h.typ = 0x11 ∨ h.typ = 0x12 →
    let seq : BlockSeq := h.ctl.extractLsb' 0 4
    let same : Prop := exec c s = .next { base with mgmt := base.mgmt.takeNext }
    (¬ base.named h.src → same) ∧
    ∀ (q : Nat) (e : Printer), base.printerOf h.src = some (q, e) → base.printer q = some e →
      (h.typ = 0x11 → (∀ f, e.flight = some f → f.outstanding = false ∨ f.seq ≠ seq) ∨ h.ctl.extractLsb' 4 2 = (3 : BitVec 2) → same) ∧
      (h.typ = 0x12 → h.ctl ≠ 0x01 → h.ctl ≠ 0x02 → h.ctl ≠ 0x03 → h.ctl ≠ 0x04 → same) ∧
      ∀ j, base.job j.number = some j → e.queue = [j.number] → j.printer = some q →
        (∀ k ∈ base.intake.jobs, k.delivery ≠ .waiting) → base.unreachable e.station = none → e.foundReason = none →
        e.foundPause = e.pause →
        let ends (u : State) (k : Job) (e' : Printer) (m : Mgmt) : Prop := exec c s = .next { u with
          intake := { base.intake with jobs := base.intake.jobs.map fun x => if x.number = j.number then k else x }
          delivery := { base.delivery with printers := tablePut base.delivery.printers q e' }
          mgmt := m.takeNext }
        let paused (pause : PauseSet) : Mgmt := base.mgmt.noted (.printerState q e.station .busy .paused none pause)
        (∀ f, h.typ = 0x11 → e.flight = some f → f.outstanding = true → f.seq = seq → e.pause = PauseSet.clear → e.found = .busy →
          j.delivery = .printing →
          (h.ctl.extractLsb' 4 2 = (1 : BitVec 2) → exec c s = .next { base with
            delivery := { base.delivery with printers := tablePut base.delivery.printers q { e with
              flight := some { f with outstanding := false }
              blockTimer := .stopped
              retryTimer := .running 200 } }
            mgmt := base.mgmt.takeNext }) ∧
          (h.ctl.extractLsb' 4 2 = (2 : BitVec 2) → e.resends < 3 → ∀ u, base.blockOffered e.station f u → exec c s = .next { u with
            delivery := { base.delivery with printers := tablePut base.delivery.printers q { e with
              resends := e.resends + 1
              blockTimer := .running e.blockTimeout } }
            mgmt := base.mgmt.takeNext }) ∧
          (h.ctl.extractLsb' 4 2 = (0 : BitVec 2) →
            (∀ page, f.page = some page → (∀ i, ∀ x ∈ (base.port i).service, x.isPage page = false) ∧
              ∀ x ∈ base.uplink.service, x.isPage page = false) →
            let took : Job := { j with
              delivered := j.delivered + f.count
              chain := if f.page = none then j.chain else j.chain.drop 1
              printerSeq := j.printerSeq + 1 }
            let free : Printer := { e with
              nextSeq := e.nextSeq + 1
              resends := 0
              flight := none
              blockTimer := .stopped }
            (f.last = false → took.hasBlock = false → ends base took free base.mgmt) ∧
            (f.last = false → took.hasBlock = true → ∀ u, base.blockOffered e.station (took.block took.printerSeq) u →
              ends u { took with blockOffered := true }
                { free with
                  flight := some (took.block took.printerSeq)
                  blockTimer := .running e.blockTimeout } base.mgmt) ∧
            (f.last = true → ends base { took with delivery := .ending }
              { free with
                retryTimer := .stopped
                endTimer := .running (e.endTimeout * 1000) } base.mgmt))) ∧
        (∀ f, h.typ = 0x11 → e.flight = some f → f.outstanding = true → f.seq = seq → h.ctl.extractLsb' 4 2 = (0 : BitVec 2) →
          f.last = false → j.delivery = .held → e.pause ≠ PauseSet.clear → e.found = .paused →
          (∀ page, f.page = some page → (∀ i, ∀ x ∈ (base.port i).service, x.isPage page = false) ∧
            ∀ x ∈ base.uplink.service, x.isPage page = false) → 0 < j.delivered + f.count →
          ends base { j with
              delivered := j.delivered + f.count
              chain := if f.page = none then j.chain else j.chain.drop 1
              printerSeq := j.printerSeq + 1 }
            { e with nextSeq := e.nextSeq + 1, resends := 0, flight := none, blockTimer := .stopped } base.mgmt) ∧
        (h.typ = 0x12 → e.found = .busy → e.pause = PauseSet.clear →
          (h.ctl = 0x01 → j.delivery = .printing ∨ j.delivery = .ending → exec c s = .next { base with
            delivery := { base.delivery with printers := tablePut base.delivery.printers q e }
            mgmt := base.mgmt.takeNext }) ∧
          (∀ pause : PauseSet, (h.ctl = 0x02 ∧ pause = { PauseSet.clear with offline := true }) ∨
              (h.ctl = 0x03 ∧ pause = { PauseSet.clear with paperOut := true }) →
            (j.delivery = .printing → 0 < j.delivered ∨ base.rebinds j = false →
              ends base { j with delivery := .held } { e with pause := pause, found := .paused, foundPause := pause } (paused pause)) ∧
            (j.delivery = .ending → exec c s = .next { base with
              delivery := { base.delivery with printers := tablePut base.delivery.printers q { e with
                pause := pause
                foundPause := pause } }
              mgmt := (base.mgmt.noted (.printerState q e.station .busy .busy none pause)).takeNext })) ∧
          (h.ctl = 0x04 → j.delivery = .ending → j.chain = [] →
            let outcome := j.pendingOutcome.getD .printed
            let pause : PauseSet := { PauseSet.clear with stopped := e.stopAfter }
            let found : PrinterState := if e.stopAfter then .paused else .ready
            exec c s = .next { base with
              intake := { base.intake with jobs := base.intake.jobs.filter fun k => k.number ≠ j.number }
              delivery := { base.delivery with printers := tablePut base.delivery.printers q { e with
                rate := if outcome = .printed ∧ 1 ≤ j.activeTime
                  then max 50 (min 65535 ((3 * e.rate + j.delivered * 1000 / j.activeTime) / 4)) else e.rate
                queue := []
                flight := none
                resends := 0
                blockTimer := .stopped
                retryTimer := .stopped
                endTimer := .stopped
                pause := pause
                found := found
                foundPause := pause } }
              mgmt := ((base.mgmt.noted (.jobDone ⟨j.number, outcome, j.source, j.origin, j.service, j.urgent, j.received, j.delivered,
                some (q, e.station)⟩)).noted (.printerState q e.station .busy found none pause)).takeNext })) ∧
        (h.typ = 0x12 → e.found = .paused → j.delivery = .held →
          0 < j.delivered ∨ base.rebinds j = false →
          let clears : PauseSet := if h.ctl = 0x01 then { e.pause with offline := false, paperOut := false, noResponse := false, noEnd := false }
            else { e.pause with noResponse := false, noEnd := false }
          h.ctl = 0x01 ∨ h.ctl = 0x04 → e.pause ≠ PauseSet.clear → clears ≠ PauseSet.clear → clears ≠ e.pause →
          exec c s = .next { base with
            delivery := { base.delivery with printers := tablePut base.delivery.printers q { e with pause := clears, foundPause := clears } }
            mgmt := (base.mgmt.noted (.printerState q e.station .paused .paused none clears)).takeNext }) ∧
        (h.typ = 0x12 → e.found = .paused → j.delivery = .held → e.pause ≠ PauseSet.clear → e.flight = none → j.hasBlock = true →
          (h.ctl = 0x01 ∧ e.pause.held = false ∧ e.pause.stopped = false) ∨
            (h.ctl = 0x04 ∧ e.pause.held = false ∧ e.pause.stopped = false ∧ e.pause.offline = false ∧ e.pause.paperOut = false) →
          ∀ u, base.blockOffered e.station (j.block j.printerSeq) u →
          ends u { j with delivery := .printing, blockOffered := true }
            { e with
              pause := PauseSet.clear
              flight := some (j.block j.printerSeq)
              blockTimer := .running e.blockTimeout
              found := .busy
              foundPause := PauseSet.clear }
            (base.mgmt.noted (.printerState q e.station .paused .busy none PauseSet.clear)))

/-! ## What every step keeps -/

/-- The machine right after reset has every form the statements below say each step keeps. -/
def Obligations.ResetIsWellFormed : Prop :=
  State.reset.portsWf = true ∧ State.reset.supsWf = true ∧ State.reset.table.wf = true ∧ State.reset.delivery.wf = true ∧
    State.reset.claimsWf = true ∧ memWf State.reset.pool.mem = true ∧ State.reset.uplink.wf = true ∧
    State.reset.mgmt.wf = true ∧ State.reset.pagesWf = true ∧ State.reset.jobsWf = true ∧ State.reset.refsWf = true

/-- Whatever the command, relay, line code, settle timer, isolation reason, queues and receiver of every segment keep agreeing with
its state, and TESTING with the tester's context (R18, R19, R21, R25, R35, R65); and every supervision context keeps its ranges, its
flap timer running exactly while a flap is counted (R41, R42, R58, R60). -/
def Obligations.LinesKeepTheirForm : Prop :=
  ∀ s t : State, step s = .next t →
    (s.portsWf = true → t.portsWf = true) ∧ (s.supsWf = true → t.supsWf = true)

/-- Whatever the command, the Station Table and the printer and group tables keep their form, a group's members in use (R84, R149,
R152); and no number comes to be more than one of gateway number, service number, alias and known station (R85). -/
def Obligations.StationTableKeepsItsForm : Prop :=
  ∀ s t : State, step s = .next t →
    (s.table.wf = true → t.table.wf = true) ∧ (s.delivery.wf = true → t.delivery.wf = true) ∧
    (s.table.wf = true → s.claimsWf = true → t.claimsWf = true)

/-- Whatever the command, the pool memory keeps its canonical form; the uplink's queues are empty while the link is DOWN and keep to
their sizes (R116, R117); the notice queue keeps to 32, STARTED stays enabled, and what is being sent stands in its slot (R171,
R172, R176, R177). -/
def Obligations.MemoryUplinkAndManagementKeepTheirForm : Prop :=
  ∀ s t : State, step s = .next t →
    (memWf s.pool.mem = true → memWf t.pool.mem = true) ∧ (s.uplink.wf = true → t.uplink.wf = true) ∧
    (s.mgmt.wf = true → t.mgmt.wf = true)

/-- Whatever the command, no page comes to have two owners, every owned page is one of the 1,024, each stored frame is named by its
first page and job numbers stay distinct (R123, R133); each stored frame's reference count stays the number of queue entries that
point at it, and none is kept without one (R126); and a WAITING job stays bound to no printer (R153). -/
def Obligations.PagesAndJobsKeepTheirForm : Prop :=
  ∀ s t : State, step s = .next t →
    (s.pagesWf = true → t.pagesWf = true) ∧ (s.pagesWf = true → s.refsWf = true → t.refsWf = true) ∧
    (s.jobsWf = true → t.jobsWf = true)

end
end

