-- ==== Sys2Proof/Laws/State.lean ====
section
/-! SUPPORT. The small lemmas of the state: what each plain update leaves, field by field, and what it makes of the field it
writes. All hold by unfolding one record update. -/

namespace Sys2Proof.Machine

/-! ### Ports: replacing one port. -/

@[simp] theorem State.setPort_pending (s : State) (i : SegIx) (p : Port) : (s.setPort i p).pending = s.pending := rfl
@[simp] theorem State.setPort_raised (s : State) (i : SegIx) (p : Port) : (s.setPort i p).raised = s.raised := rfl
@[simp] theorem State.setPort_draws (s : State) (i : SegIx) (p : Port) : (s.setPort i p).draws = s.draws := rfl
@[simp] theorem State.setPort_syncs (s : State) (i : SegIx) (p : Port) : (s.setPort i p).syncs = s.syncs := rfl
@[simp] theorem State.setPort_sups (s : State) (i : SegIx) (p : Port) : (s.setPort i p).sups = s.sups := rfl
@[simp] theorem State.setPort_tester (s : State) (i : SegIx) (p : Port) : (s.setPort i p).tester = s.tester := rfl
@[simp] theorem State.setPort_table (s : State) (i : SegIx) (p : Port) : (s.setPort i p).table = s.table := rfl
@[simp] theorem State.setPort_uplink (s : State) (i : SegIx) (p : Port) : (s.setPort i p).uplink = s.uplink := rfl
@[simp] theorem State.setPort_pool (s : State) (i : SegIx) (p : Port) : (s.setPort i p).pool = s.pool := rfl
@[simp] theorem State.setPort_intake (s : State) (i : SegIx) (p : Port) : (s.setPort i p).intake = s.intake := rfl
@[simp] theorem State.setPort_delivery (s : State) (i : SegIx) (p : Port) : (s.setPort i p).delivery = s.delivery := rfl
@[simp] theorem State.setPort_mgmt (s : State) (i : SegIx) (p : Port) : (s.setPort i p).mgmt = s.mgmt := rfl
@[simp] theorem State.setPort_time (s : State) (i : SegIx) (p : Port) : (s.setPort i p).time = s.time := rfl
@[simp] theorem State.setPort_sup (s : State) (i : SegIx) (p : Port) (y : SegIx) : (s.setPort i p).sup y = s.sup y := rfl
@[simp] theorem State.setPort_job (s : State) (i : SegIx) (p : Port) (y : Half) : (s.setPort i p).job y = s.job y := rfl
@[simp] theorem State.setPort_printer (s : State) (i : SegIx) (p : Port) (y : Nat) : (s.setPort i p).printer y = s.printer y := rfl
@[simp] theorem State.setPort_group (s : State) (i : SegIx) (p : Port) (y : Nat) : (s.setPort i p).group y = s.group y := rfl

/-! ### Replacing one supervision context. -/

@[simp] theorem State.setSup_pending (s : State) (i : SegIx) (c : Supervision) : (s.setSup i c).pending = s.pending := rfl
@[simp] theorem State.setSup_raised (s : State) (i : SegIx) (c : Supervision) : (s.setSup i c).raised = s.raised := rfl
@[simp] theorem State.setSup_draws (s : State) (i : SegIx) (c : Supervision) : (s.setSup i c).draws = s.draws := rfl
@[simp] theorem State.setSup_ports (s : State) (i : SegIx) (c : Supervision) : (s.setSup i c).ports = s.ports := rfl
@[simp] theorem State.setSup_syncs (s : State) (i : SegIx) (c : Supervision) : (s.setSup i c).syncs = s.syncs := rfl
@[simp] theorem State.setSup_tester (s : State) (i : SegIx) (c : Supervision) : (s.setSup i c).tester = s.tester := rfl
@[simp] theorem State.setSup_table (s : State) (i : SegIx) (c : Supervision) : (s.setSup i c).table = s.table := rfl
@[simp] theorem State.setSup_uplink (s : State) (i : SegIx) (c : Supervision) : (s.setSup i c).uplink = s.uplink := rfl
@[simp] theorem State.setSup_pool (s : State) (i : SegIx) (c : Supervision) : (s.setSup i c).pool = s.pool := rfl
@[simp] theorem State.setSup_intake (s : State) (i : SegIx) (c : Supervision) : (s.setSup i c).intake = s.intake := rfl
@[simp] theorem State.setSup_delivery (s : State) (i : SegIx) (c : Supervision) : (s.setSup i c).delivery = s.delivery := rfl
@[simp] theorem State.setSup_mgmt (s : State) (i : SegIx) (c : Supervision) : (s.setSup i c).mgmt = s.mgmt := rfl
@[simp] theorem State.setSup_time (s : State) (i : SegIx) (c : Supervision) : (s.setSup i c).time = s.time := rfl
@[simp] theorem State.setSup_port (s : State) (i : SegIx) (c : Supervision) (y : SegIx) : (s.setSup i c).port y = s.port y := rfl
@[simp] theorem State.setSup_job (s : State) (i : SegIx) (c : Supervision) (y : Half) : (s.setSup i c).job y = s.job y := rfl
@[simp] theorem State.setSup_printer (s : State) (i : SegIx) (c : Supervision) (y : Nat) : (s.setSup i c).printer y = s.printer y := rfl
@[simp] theorem State.setSup_group (s : State) (i : SegIx) (c : Supervision) (y : Nat) : (s.setSup i c).group y = s.group y := rfl

/-! ### Raising an event for another block. -/

@[simp] theorem State.raise_pending (s : State) (r : Raised) : (s.raise r).pending = s.pending := rfl
@[simp] theorem State.raise_draws (s : State) (r : Raised) : (s.raise r).draws = s.draws := rfl
@[simp] theorem State.raise_ports (s : State) (r : Raised) : (s.raise r).ports = s.ports := rfl
@[simp] theorem State.raise_syncs (s : State) (r : Raised) : (s.raise r).syncs = s.syncs := rfl
@[simp] theorem State.raise_sups (s : State) (r : Raised) : (s.raise r).sups = s.sups := rfl
@[simp] theorem State.raise_tester (s : State) (r : Raised) : (s.raise r).tester = s.tester := rfl
@[simp] theorem State.raise_table (s : State) (r : Raised) : (s.raise r).table = s.table := rfl
@[simp] theorem State.raise_uplink (s : State) (r : Raised) : (s.raise r).uplink = s.uplink := rfl
@[simp] theorem State.raise_pool (s : State) (r : Raised) : (s.raise r).pool = s.pool := rfl
@[simp] theorem State.raise_intake (s : State) (r : Raised) : (s.raise r).intake = s.intake := rfl
@[simp] theorem State.raise_delivery (s : State) (r : Raised) : (s.raise r).delivery = s.delivery := rfl
@[simp] theorem State.raise_mgmt (s : State) (r : Raised) : (s.raise r).mgmt = s.mgmt := rfl
@[simp] theorem State.raise_time (s : State) (r : Raised) : (s.raise r).time = s.time := rfl
@[simp] theorem State.raise_port (s : State) (r : Raised) (y : SegIx) : (s.raise r).port y = s.port y := rfl
@[simp] theorem State.raise_sup (s : State) (r : Raised) (y : SegIx) : (s.raise r).sup y = s.sup y := rfl
@[simp] theorem State.raise_job (s : State) (r : Raised) (y : Half) : (s.raise r).job y = s.job y := rfl
@[simp] theorem State.raise_printer (s : State) (r : Raised) (y : Nat) : (s.raise r).printer y = s.printer y := rfl
@[simp] theorem State.raise_group (s : State) (r : Raised) (y : Nat) : (s.raise r).group y = s.group y := rfl

/-! ### Drawing a free value. -/

@[simp] theorem State.draw_pending (s : State) : (s.draw).pending = s.pending := rfl
@[simp] theorem State.draw_raised (s : State) : (s.draw).raised = s.raised := rfl
@[simp] theorem State.draw_ports (s : State) : (s.draw).ports = s.ports := rfl
@[simp] theorem State.draw_syncs (s : State) : (s.draw).syncs = s.syncs := rfl
@[simp] theorem State.draw_sups (s : State) : (s.draw).sups = s.sups := rfl
@[simp] theorem State.draw_tester (s : State) : (s.draw).tester = s.tester := rfl
@[simp] theorem State.draw_table (s : State) : (s.draw).table = s.table := rfl
@[simp] theorem State.draw_uplink (s : State) : (s.draw).uplink = s.uplink := rfl
@[simp] theorem State.draw_pool (s : State) : (s.draw).pool = s.pool := rfl
@[simp] theorem State.draw_intake (s : State) : (s.draw).intake = s.intake := rfl
@[simp] theorem State.draw_delivery (s : State) : (s.draw).delivery = s.delivery := rfl
@[simp] theorem State.draw_mgmt (s : State) : (s.draw).mgmt = s.mgmt := rfl
@[simp] theorem State.draw_time (s : State) : (s.draw).time = s.time := rfl
@[simp] theorem State.draw_port (s : State) (y : SegIx) : (s.draw).port y = s.port y := rfl
@[simp] theorem State.draw_sup (s : State) (y : SegIx) : (s.draw).sup y = s.sup y := rfl
@[simp] theorem State.draw_job (s : State) (y : Half) : (s.draw).job y = s.job y := rfl
@[simp] theorem State.draw_printer (s : State) (y : Nat) : (s.draw).printer y = s.printer y := rfl
@[simp] theorem State.draw_group (s : State) (y : Nat) : (s.draw).group y = s.group y := rfl

/-! ### Setting a pending test flag. -/

@[simp] theorem State.setPending_pending (s : State) (i : SegIx) (v : Bool) : (s.setPending i v).pending = s.pending := rfl
@[simp] theorem State.setPending_raised (s : State) (i : SegIx) (v : Bool) : (s.setPending i v).raised = s.raised := rfl
@[simp] theorem State.setPending_draws (s : State) (i : SegIx) (v : Bool) : (s.setPending i v).draws = s.draws := rfl
@[simp] theorem State.setPending_ports (s : State) (i : SegIx) (v : Bool) : (s.setPending i v).ports = s.ports := rfl
@[simp] theorem State.setPending_syncs (s : State) (i : SegIx) (v : Bool) : (s.setPending i v).syncs = s.syncs := rfl
@[simp] theorem State.setPending_sups (s : State) (i : SegIx) (v : Bool) : (s.setPending i v).sups = s.sups := rfl
@[simp] theorem State.setPending_table (s : State) (i : SegIx) (v : Bool) : (s.setPending i v).table = s.table := rfl
@[simp] theorem State.setPending_uplink (s : State) (i : SegIx) (v : Bool) : (s.setPending i v).uplink = s.uplink := rfl
@[simp] theorem State.setPending_pool (s : State) (i : SegIx) (v : Bool) : (s.setPending i v).pool = s.pool := rfl
@[simp] theorem State.setPending_intake (s : State) (i : SegIx) (v : Bool) : (s.setPending i v).intake = s.intake := rfl
@[simp] theorem State.setPending_delivery (s : State) (i : SegIx) (v : Bool) : (s.setPending i v).delivery = s.delivery := rfl
@[simp] theorem State.setPending_mgmt (s : State) (i : SegIx) (v : Bool) : (s.setPending i v).mgmt = s.mgmt := rfl
@[simp] theorem State.setPending_time (s : State) (i : SegIx) (v : Bool) : (s.setPending i v).time = s.time := rfl
@[simp] theorem State.setPending_port (s : State) (i : SegIx) (v : Bool) (y : SegIx) : (s.setPending i v).port y = s.port y := rfl
@[simp] theorem State.setPending_sup (s : State) (i : SegIx) (v : Bool) (y : SegIx) : (s.setPending i v).sup y = s.sup y := rfl
@[simp] theorem State.setPending_job (s : State) (i : SegIx) (v : Bool) (y : Half) : (s.setPending i v).job y = s.job y := rfl
@[simp] theorem State.setPending_printer (s : State) (i : SegIx) (v : Bool) (y : Nat) : (s.setPending i v).printer y = s.printer y := rfl
@[simp] theorem State.setPending_group (s : State) (i : SegIx) (v : Bool) (y : Nat) : (s.setPending i v).group y = s.group y := rfl

/-! ### Replacing the test context. -/

@[simp] theorem State.setContext_pending (s : State) (c : Option TestContext) : (s.setContext c).pending = s.pending := rfl
@[simp] theorem State.setContext_raised (s : State) (c : Option TestContext) : (s.setContext c).raised = s.raised := rfl
@[simp] theorem State.setContext_draws (s : State) (c : Option TestContext) : (s.setContext c).draws = s.draws := rfl
@[simp] theorem State.setContext_ports (s : State) (c : Option TestContext) : (s.setContext c).ports = s.ports := rfl
@[simp] theorem State.setContext_syncs (s : State) (c : Option TestContext) : (s.setContext c).syncs = s.syncs := rfl
@[simp] theorem State.setContext_sups (s : State) (c : Option TestContext) : (s.setContext c).sups = s.sups := rfl
@[simp] theorem State.setContext_table (s : State) (c : Option TestContext) : (s.setContext c).table = s.table := rfl
@[simp] theorem State.setContext_uplink (s : State) (c : Option TestContext) : (s.setContext c).uplink = s.uplink := rfl
@[simp] theorem State.setContext_pool (s : State) (c : Option TestContext) : (s.setContext c).pool = s.pool := rfl
@[simp] theorem State.setContext_intake (s : State) (c : Option TestContext) : (s.setContext c).intake = s.intake := rfl
@[simp] theorem State.setContext_delivery (s : State) (c : Option TestContext) : (s.setContext c).delivery = s.delivery := rfl
@[simp] theorem State.setContext_mgmt (s : State) (c : Option TestContext) : (s.setContext c).mgmt = s.mgmt := rfl
@[simp] theorem State.setContext_time (s : State) (c : Option TestContext) : (s.setContext c).time = s.time := rfl
@[simp] theorem State.setContext_port (s : State) (c : Option TestContext) (y : SegIx) : (s.setContext c).port y = s.port y := rfl
@[simp] theorem State.setContext_sup (s : State) (c : Option TestContext) (y : SegIx) : (s.setContext c).sup y = s.sup y := rfl
@[simp] theorem State.setContext_job (s : State) (c : Option TestContext) (y : Half) : (s.setContext c).job y = s.job y := rfl
@[simp] theorem State.setContext_printer (s : State) (c : Option TestContext) (y : Nat) : (s.setContext c).printer y = s.printer y := rfl
@[simp] theorem State.setContext_group (s : State) (c : Option TestContext) (y : Nat) : (s.setContext c).group y = s.group y := rfl

/-! ### Writing an echo capture. -/

@[simp] theorem State.writeCapture_pending (s : State) (i : SegIx) (c : Capture) : (s.writeCapture i c).pending = s.pending := rfl
@[simp] theorem State.writeCapture_raised (s : State) (i : SegIx) (c : Capture) : (s.writeCapture i c).raised = s.raised := rfl
@[simp] theorem State.writeCapture_draws (s : State) (i : SegIx) (c : Capture) : (s.writeCapture i c).draws = s.draws := rfl
@[simp] theorem State.writeCapture_ports (s : State) (i : SegIx) (c : Capture) : (s.writeCapture i c).ports = s.ports := rfl
@[simp] theorem State.writeCapture_syncs (s : State) (i : SegIx) (c : Capture) : (s.writeCapture i c).syncs = s.syncs := rfl
@[simp] theorem State.writeCapture_sups (s : State) (i : SegIx) (c : Capture) : (s.writeCapture i c).sups = s.sups := rfl
@[simp] theorem State.writeCapture_table (s : State) (i : SegIx) (c : Capture) : (s.writeCapture i c).table = s.table := rfl
@[simp] theorem State.writeCapture_uplink (s : State) (i : SegIx) (c : Capture) : (s.writeCapture i c).uplink = s.uplink := rfl
@[simp] theorem State.writeCapture_pool (s : State) (i : SegIx) (c : Capture) : (s.writeCapture i c).pool = s.pool := rfl
@[simp] theorem State.writeCapture_intake (s : State) (i : SegIx) (c : Capture) : (s.writeCapture i c).intake = s.intake := rfl
@[simp] theorem State.writeCapture_delivery (s : State) (i : SegIx) (c : Capture) : (s.writeCapture i c).delivery = s.delivery := rfl
@[simp] theorem State.writeCapture_mgmt (s : State) (i : SegIx) (c : Capture) : (s.writeCapture i c).mgmt = s.mgmt := rfl
@[simp] theorem State.writeCapture_time (s : State) (i : SegIx) (c : Capture) : (s.writeCapture i c).time = s.time := rfl
@[simp] theorem State.writeCapture_port (s : State) (i : SegIx) (c : Capture) (y : SegIx) : (s.writeCapture i c).port y = s.port y := rfl
@[simp] theorem State.writeCapture_sup (s : State) (i : SegIx) (c : Capture) (y : SegIx) : (s.writeCapture i c).sup y = s.sup y := rfl
@[simp] theorem State.writeCapture_job (s : State) (i : SegIx) (c : Capture) (y : Half) : (s.writeCapture i c).job y = s.job y := rfl
@[simp] theorem State.writeCapture_printer (s : State) (i : SegIx) (c : Capture) (y : Nat) : (s.writeCapture i c).printer y = s.printer y := rfl
@[simp] theorem State.writeCapture_group (s : State) (i : SegIx) (c : Capture) (y : Nat) : (s.writeCapture i c).group y = s.group y := rfl

/-! ### Replacing a station entry. -/

@[simp] theorem State.setEntry_pending (s : State) (n : Byte) (e : Station) : (s.setEntry n e).pending = s.pending := rfl
@[simp] theorem State.setEntry_raised (s : State) (n : Byte) (e : Station) : (s.setEntry n e).raised = s.raised := rfl
@[simp] theorem State.setEntry_draws (s : State) (n : Byte) (e : Station) : (s.setEntry n e).draws = s.draws := rfl
@[simp] theorem State.setEntry_ports (s : State) (n : Byte) (e : Station) : (s.setEntry n e).ports = s.ports := rfl
@[simp] theorem State.setEntry_syncs (s : State) (n : Byte) (e : Station) : (s.setEntry n e).syncs = s.syncs := rfl
@[simp] theorem State.setEntry_sups (s : State) (n : Byte) (e : Station) : (s.setEntry n e).sups = s.sups := rfl
@[simp] theorem State.setEntry_tester (s : State) (n : Byte) (e : Station) : (s.setEntry n e).tester = s.tester := rfl
@[simp] theorem State.setEntry_uplink (s : State) (n : Byte) (e : Station) : (s.setEntry n e).uplink = s.uplink := rfl
@[simp] theorem State.setEntry_pool (s : State) (n : Byte) (e : Station) : (s.setEntry n e).pool = s.pool := rfl
@[simp] theorem State.setEntry_intake (s : State) (n : Byte) (e : Station) : (s.setEntry n e).intake = s.intake := rfl
@[simp] theorem State.setEntry_delivery (s : State) (n : Byte) (e : Station) : (s.setEntry n e).delivery = s.delivery := rfl
@[simp] theorem State.setEntry_mgmt (s : State) (n : Byte) (e : Station) : (s.setEntry n e).mgmt = s.mgmt := rfl
@[simp] theorem State.setEntry_time (s : State) (n : Byte) (e : Station) : (s.setEntry n e).time = s.time := rfl
@[simp] theorem State.setEntry_port (s : State) (n : Byte) (e : Station) (y : SegIx) : (s.setEntry n e).port y = s.port y := rfl
@[simp] theorem State.setEntry_sup (s : State) (n : Byte) (e : Station) (y : SegIx) : (s.setEntry n e).sup y = s.sup y := rfl
@[simp] theorem State.setEntry_job (s : State) (n : Byte) (e : Station) (y : Half) : (s.setEntry n e).job y = s.job y := rfl
@[simp] theorem State.setEntry_printer (s : State) (n : Byte) (e : Station) (y : Nat) : (s.setEntry n e).printer y = s.printer y := rfl
@[simp] theorem State.setEntry_group (s : State) (n : Byte) (e : Station) (y : Nat) : (s.setEntry n e).group y = s.group y := rfl

/-! ### Replacing a job record. -/

@[simp] theorem State.setJob_pending (s : State) (j : Job) : (s.setJob j).pending = s.pending := rfl
@[simp] theorem State.setJob_raised (s : State) (j : Job) : (s.setJob j).raised = s.raised := rfl
@[simp] theorem State.setJob_draws (s : State) (j : Job) : (s.setJob j).draws = s.draws := rfl
@[simp] theorem State.setJob_ports (s : State) (j : Job) : (s.setJob j).ports = s.ports := rfl
@[simp] theorem State.setJob_syncs (s : State) (j : Job) : (s.setJob j).syncs = s.syncs := rfl
@[simp] theorem State.setJob_sups (s : State) (j : Job) : (s.setJob j).sups = s.sups := rfl
@[simp] theorem State.setJob_tester (s : State) (j : Job) : (s.setJob j).tester = s.tester := rfl
@[simp] theorem State.setJob_table (s : State) (j : Job) : (s.setJob j).table = s.table := rfl
@[simp] theorem State.setJob_uplink (s : State) (j : Job) : (s.setJob j).uplink = s.uplink := rfl
@[simp] theorem State.setJob_pool (s : State) (j : Job) : (s.setJob j).pool = s.pool := rfl
@[simp] theorem State.setJob_delivery (s : State) (j : Job) : (s.setJob j).delivery = s.delivery := rfl
@[simp] theorem State.setJob_mgmt (s : State) (j : Job) : (s.setJob j).mgmt = s.mgmt := rfl
@[simp] theorem State.setJob_time (s : State) (j : Job) : (s.setJob j).time = s.time := rfl
@[simp] theorem State.setJob_port (s : State) (j : Job) (y : SegIx) : (s.setJob j).port y = s.port y := rfl
@[simp] theorem State.setJob_sup (s : State) (j : Job) (y : SegIx) : (s.setJob j).sup y = s.sup y := rfl
@[simp] theorem State.setJob_printer (s : State) (j : Job) (y : Nat) : (s.setJob j).printer y = s.printer y := rfl
@[simp] theorem State.setJob_group (s : State) (j : Job) (y : Nat) : (s.setJob j).group y = s.group y := rfl

/-! ### Freeing a job record. -/

@[simp] theorem State.dropJob_pending (s : State) (n : Half) : (s.dropJob n).pending = s.pending := rfl
@[simp] theorem State.dropJob_raised (s : State) (n : Half) : (s.dropJob n).raised = s.raised := rfl
@[simp] theorem State.dropJob_draws (s : State) (n : Half) : (s.dropJob n).draws = s.draws := rfl
@[simp] theorem State.dropJob_ports (s : State) (n : Half) : (s.dropJob n).ports = s.ports := rfl
@[simp] theorem State.dropJob_syncs (s : State) (n : Half) : (s.dropJob n).syncs = s.syncs := rfl
@[simp] theorem State.dropJob_sups (s : State) (n : Half) : (s.dropJob n).sups = s.sups := rfl
@[simp] theorem State.dropJob_tester (s : State) (n : Half) : (s.dropJob n).tester = s.tester := rfl
@[simp] theorem State.dropJob_table (s : State) (n : Half) : (s.dropJob n).table = s.table := rfl
@[simp] theorem State.dropJob_uplink (s : State) (n : Half) : (s.dropJob n).uplink = s.uplink := rfl
@[simp] theorem State.dropJob_pool (s : State) (n : Half) : (s.dropJob n).pool = s.pool := rfl
@[simp] theorem State.dropJob_delivery (s : State) (n : Half) : (s.dropJob n).delivery = s.delivery := rfl
@[simp] theorem State.dropJob_mgmt (s : State) (n : Half) : (s.dropJob n).mgmt = s.mgmt := rfl
@[simp] theorem State.dropJob_time (s : State) (n : Half) : (s.dropJob n).time = s.time := rfl
@[simp] theorem State.dropJob_port (s : State) (n : Half) (y : SegIx) : (s.dropJob n).port y = s.port y := rfl
@[simp] theorem State.dropJob_sup (s : State) (n : Half) (y : SegIx) : (s.dropJob n).sup y = s.sup y := rfl
@[simp] theorem State.dropJob_printer (s : State) (n : Half) (y : Nat) : (s.dropJob n).printer y = s.printer y := rfl
@[simp] theorem State.dropJob_group (s : State) (n : Half) (y : Nat) : (s.dropJob n).group y = s.group y := rfl

/-! ### Counting on the intake counters. -/

@[simp] theorem State.countIntake_pending (s : State) (f : IntakeCounters → IntakeCounters) : (s.countIntake f).pending = s.pending := rfl
@[simp] theorem State.countIntake_raised (s : State) (f : IntakeCounters → IntakeCounters) : (s.countIntake f).raised = s.raised := rfl
@[simp] theorem State.countIntake_draws (s : State) (f : IntakeCounters → IntakeCounters) : (s.countIntake f).draws = s.draws := rfl
@[simp] theorem State.countIntake_ports (s : State) (f : IntakeCounters → IntakeCounters) : (s.countIntake f).ports = s.ports := rfl
@[simp] theorem State.countIntake_syncs (s : State) (f : IntakeCounters → IntakeCounters) : (s.countIntake f).syncs = s.syncs := rfl
@[simp] theorem State.countIntake_sups (s : State) (f : IntakeCounters → IntakeCounters) : (s.countIntake f).sups = s.sups := rfl
@[simp] theorem State.countIntake_tester (s : State) (f : IntakeCounters → IntakeCounters) : (s.countIntake f).tester = s.tester := rfl
@[simp] theorem State.countIntake_table (s : State) (f : IntakeCounters → IntakeCounters) : (s.countIntake f).table = s.table := rfl
@[simp] theorem State.countIntake_uplink (s : State) (f : IntakeCounters → IntakeCounters) : (s.countIntake f).uplink = s.uplink := rfl
@[simp] theorem State.countIntake_pool (s : State) (f : IntakeCounters → IntakeCounters) : (s.countIntake f).pool = s.pool := rfl
@[simp] theorem State.countIntake_delivery (s : State) (f : IntakeCounters → IntakeCounters) : (s.countIntake f).delivery = s.delivery := rfl
@[simp] theorem State.countIntake_mgmt (s : State) (f : IntakeCounters → IntakeCounters) : (s.countIntake f).mgmt = s.mgmt := rfl
@[simp] theorem State.countIntake_time (s : State) (f : IntakeCounters → IntakeCounters) : (s.countIntake f).time = s.time := rfl
@[simp] theorem State.countIntake_port (s : State) (f : IntakeCounters → IntakeCounters) (y : SegIx) : (s.countIntake f).port y = s.port y := rfl
@[simp] theorem State.countIntake_sup (s : State) (f : IntakeCounters → IntakeCounters) (y : SegIx) : (s.countIntake f).sup y = s.sup y := rfl
@[simp] theorem State.countIntake_printer (s : State) (f : IntakeCounters → IntakeCounters) (y : Nat) : (s.countIntake f).printer y = s.printer y := rfl
@[simp] theorem State.countIntake_group (s : State) (f : IntakeCounters → IntakeCounters) (y : Nat) : (s.countIntake f).group y = s.group y := rfl

/-! ### Replacing a printer entry. -/

@[simp] theorem State.setPrinter_pending (s : State) (p : Nat) (e : Printer) : (s.setPrinter p e).pending = s.pending := rfl
@[simp] theorem State.setPrinter_raised (s : State) (p : Nat) (e : Printer) : (s.setPrinter p e).raised = s.raised := rfl
@[simp] theorem State.setPrinter_draws (s : State) (p : Nat) (e : Printer) : (s.setPrinter p e).draws = s.draws := rfl
@[simp] theorem State.setPrinter_ports (s : State) (p : Nat) (e : Printer) : (s.setPrinter p e).ports = s.ports := rfl
@[simp] theorem State.setPrinter_syncs (s : State) (p : Nat) (e : Printer) : (s.setPrinter p e).syncs = s.syncs := rfl
@[simp] theorem State.setPrinter_sups (s : State) (p : Nat) (e : Printer) : (s.setPrinter p e).sups = s.sups := rfl
@[simp] theorem State.setPrinter_tester (s : State) (p : Nat) (e : Printer) : (s.setPrinter p e).tester = s.tester := rfl
@[simp] theorem State.setPrinter_table (s : State) (p : Nat) (e : Printer) : (s.setPrinter p e).table = s.table := rfl
@[simp] theorem State.setPrinter_uplink (s : State) (p : Nat) (e : Printer) : (s.setPrinter p e).uplink = s.uplink := rfl
@[simp] theorem State.setPrinter_pool (s : State) (p : Nat) (e : Printer) : (s.setPrinter p e).pool = s.pool := rfl
@[simp] theorem State.setPrinter_intake (s : State) (p : Nat) (e : Printer) : (s.setPrinter p e).intake = s.intake := rfl
@[simp] theorem State.setPrinter_mgmt (s : State) (p : Nat) (e : Printer) : (s.setPrinter p e).mgmt = s.mgmt := rfl
@[simp] theorem State.setPrinter_time (s : State) (p : Nat) (e : Printer) : (s.setPrinter p e).time = s.time := rfl
@[simp] theorem State.setPrinter_port (s : State) (p : Nat) (e : Printer) (y : SegIx) : (s.setPrinter p e).port y = s.port y := rfl
@[simp] theorem State.setPrinter_sup (s : State) (p : Nat) (e : Printer) (y : SegIx) : (s.setPrinter p e).sup y = s.sup y := rfl
@[simp] theorem State.setPrinter_job (s : State) (p : Nat) (e : Printer) (y : Half) : (s.setPrinter p e).job y = s.job y := rfl

/-! ### A printer leaving every member list. -/

@[simp] theorem State.leaveGroups_pending (s : State) (p : Nat) : (s.leaveGroups p).pending = s.pending := rfl
@[simp] theorem State.leaveGroups_raised (s : State) (p : Nat) : (s.leaveGroups p).raised = s.raised := rfl
@[simp] theorem State.leaveGroups_draws (s : State) (p : Nat) : (s.leaveGroups p).draws = s.draws := rfl
@[simp] theorem State.leaveGroups_ports (s : State) (p : Nat) : (s.leaveGroups p).ports = s.ports := rfl
@[simp] theorem State.leaveGroups_syncs (s : State) (p : Nat) : (s.leaveGroups p).syncs = s.syncs := rfl
@[simp] theorem State.leaveGroups_sups (s : State) (p : Nat) : (s.leaveGroups p).sups = s.sups := rfl
@[simp] theorem State.leaveGroups_tester (s : State) (p : Nat) : (s.leaveGroups p).tester = s.tester := rfl
@[simp] theorem State.leaveGroups_table (s : State) (p : Nat) : (s.leaveGroups p).table = s.table := rfl
@[simp] theorem State.leaveGroups_uplink (s : State) (p : Nat) : (s.leaveGroups p).uplink = s.uplink := rfl
@[simp] theorem State.leaveGroups_pool (s : State) (p : Nat) : (s.leaveGroups p).pool = s.pool := rfl
@[simp] theorem State.leaveGroups_intake (s : State) (p : Nat) : (s.leaveGroups p).intake = s.intake := rfl
@[simp] theorem State.leaveGroups_mgmt (s : State) (p : Nat) : (s.leaveGroups p).mgmt = s.mgmt := rfl
@[simp] theorem State.leaveGroups_time (s : State) (p : Nat) : (s.leaveGroups p).time = s.time := rfl
@[simp] theorem State.leaveGroups_port (s : State) (p : Nat) (y : SegIx) : (s.leaveGroups p).port y = s.port y := rfl
@[simp] theorem State.leaveGroups_sup (s : State) (p : Nat) (y : SegIx) : (s.leaveGroups p).sup y = s.sup y := rfl
@[simp] theorem State.leaveGroups_job (s : State) (p : Nat) (y : Half) : (s.leaveGroups p).job y = s.job y := rfl

/-! ### Following the free count down. -/

@[simp] theorem State.noteLowest_pending (s : State) : (s.noteLowest).pending = s.pending := rfl
@[simp] theorem State.noteLowest_raised (s : State) : (s.noteLowest).raised = s.raised := rfl
@[simp] theorem State.noteLowest_draws (s : State) : (s.noteLowest).draws = s.draws := rfl
@[simp] theorem State.noteLowest_ports (s : State) : (s.noteLowest).ports = s.ports := rfl
@[simp] theorem State.noteLowest_syncs (s : State) : (s.noteLowest).syncs = s.syncs := rfl
@[simp] theorem State.noteLowest_sups (s : State) : (s.noteLowest).sups = s.sups := rfl
@[simp] theorem State.noteLowest_tester (s : State) : (s.noteLowest).tester = s.tester := rfl
@[simp] theorem State.noteLowest_table (s : State) : (s.noteLowest).table = s.table := rfl
@[simp] theorem State.noteLowest_uplink (s : State) : (s.noteLowest).uplink = s.uplink := rfl
@[simp] theorem State.noteLowest_intake (s : State) : (s.noteLowest).intake = s.intake := rfl
@[simp] theorem State.noteLowest_delivery (s : State) : (s.noteLowest).delivery = s.delivery := rfl
@[simp] theorem State.noteLowest_mgmt (s : State) : (s.noteLowest).mgmt = s.mgmt := rfl
@[simp] theorem State.noteLowest_time (s : State) : (s.noteLowest).time = s.time := rfl
@[simp] theorem State.noteLowest_port (s : State) (y : SegIx) : (s.noteLowest).port y = s.port y := rfl
@[simp] theorem State.noteLowest_sup (s : State) (y : SegIx) : (s.noteLowest).sup y = s.sup y := rfl
@[simp] theorem State.noteLowest_job (s : State) (y : Half) : (s.noteLowest).job y = s.job y := rfl
@[simp] theorem State.noteLowest_printer (s : State) (y : Nat) : (s.noteLowest).printer y = s.printer y := rfl
@[simp] theorem State.noteLowest_group (s : State) (y : Nat) : (s.noteLowest).group y = s.group y := rfl

/-! ### Counting a quota refusal. -/

@[simp] theorem State.countQuotaRefusal_pending (s : State) : (s.countQuotaRefusal).pending = s.pending := rfl
@[simp] theorem State.countQuotaRefusal_raised (s : State) : (s.countQuotaRefusal).raised = s.raised := rfl
@[simp] theorem State.countQuotaRefusal_draws (s : State) : (s.countQuotaRefusal).draws = s.draws := rfl
@[simp] theorem State.countQuotaRefusal_ports (s : State) : (s.countQuotaRefusal).ports = s.ports := rfl
@[simp] theorem State.countQuotaRefusal_syncs (s : State) : (s.countQuotaRefusal).syncs = s.syncs := rfl
@[simp] theorem State.countQuotaRefusal_sups (s : State) : (s.countQuotaRefusal).sups = s.sups := rfl
@[simp] theorem State.countQuotaRefusal_tester (s : State) : (s.countQuotaRefusal).tester = s.tester := rfl
@[simp] theorem State.countQuotaRefusal_table (s : State) : (s.countQuotaRefusal).table = s.table := rfl
@[simp] theorem State.countQuotaRefusal_uplink (s : State) : (s.countQuotaRefusal).uplink = s.uplink := rfl
@[simp] theorem State.countQuotaRefusal_intake (s : State) : (s.countQuotaRefusal).intake = s.intake := rfl
@[simp] theorem State.countQuotaRefusal_delivery (s : State) : (s.countQuotaRefusal).delivery = s.delivery := rfl
@[simp] theorem State.countQuotaRefusal_mgmt (s : State) : (s.countQuotaRefusal).mgmt = s.mgmt := rfl
@[simp] theorem State.countQuotaRefusal_time (s : State) : (s.countQuotaRefusal).time = s.time := rfl
@[simp] theorem State.countQuotaRefusal_port (s : State) (y : SegIx) : (s.countQuotaRefusal).port y = s.port y := rfl
@[simp] theorem State.countQuotaRefusal_sup (s : State) (y : SegIx) : (s.countQuotaRefusal).sup y = s.sup y := rfl
@[simp] theorem State.countQuotaRefusal_job (s : State) (y : Half) : (s.countQuotaRefusal).job y = s.job y := rfl
@[simp] theorem State.countQuotaRefusal_printer (s : State) (y : Nat) : (s.countQuotaRefusal).printer y = s.printer y := rfl
@[simp] theorem State.countQuotaRefusal_group (s : State) (y : Nat) : (s.countQuotaRefusal).group y = s.group y := rfl

/-! ### Counting a reserve refusal. -/

@[simp] theorem State.countReserveRefusal_pending (s : State) : (s.countReserveRefusal).pending = s.pending := rfl
@[simp] theorem State.countReserveRefusal_raised (s : State) : (s.countReserveRefusal).raised = s.raised := rfl
@[simp] theorem State.countReserveRefusal_draws (s : State) : (s.countReserveRefusal).draws = s.draws := rfl
@[simp] theorem State.countReserveRefusal_ports (s : State) : (s.countReserveRefusal).ports = s.ports := rfl
@[simp] theorem State.countReserveRefusal_syncs (s : State) : (s.countReserveRefusal).syncs = s.syncs := rfl
@[simp] theorem State.countReserveRefusal_sups (s : State) : (s.countReserveRefusal).sups = s.sups := rfl
@[simp] theorem State.countReserveRefusal_tester (s : State) : (s.countReserveRefusal).tester = s.tester := rfl
@[simp] theorem State.countReserveRefusal_table (s : State) : (s.countReserveRefusal).table = s.table := rfl
@[simp] theorem State.countReserveRefusal_uplink (s : State) : (s.countReserveRefusal).uplink = s.uplink := rfl
@[simp] theorem State.countReserveRefusal_intake (s : State) : (s.countReserveRefusal).intake = s.intake := rfl
@[simp] theorem State.countReserveRefusal_delivery (s : State) : (s.countReserveRefusal).delivery = s.delivery := rfl
@[simp] theorem State.countReserveRefusal_mgmt (s : State) : (s.countReserveRefusal).mgmt = s.mgmt := rfl
@[simp] theorem State.countReserveRefusal_time (s : State) : (s.countReserveRefusal).time = s.time := rfl
@[simp] theorem State.countReserveRefusal_port (s : State) (y : SegIx) : (s.countReserveRefusal).port y = s.port y := rfl
@[simp] theorem State.countReserveRefusal_sup (s : State) (y : SegIx) : (s.countReserveRefusal).sup y = s.sup y := rfl
@[simp] theorem State.countReserveRefusal_job (s : State) (y : Half) : (s.countReserveRefusal).job y = s.job y := rfl
@[simp] theorem State.countReserveRefusal_printer (s : State) (y : Nat) : (s.countReserveRefusal).printer y = s.printer y := rfl
@[simp] theorem State.countReserveRefusal_group (s : State) (y : Nat) : (s.countReserveRefusal).group y = s.group y := rfl

/-! ### Writing job data. -/

@[simp] theorem State.writeJobData_pending (s : State) (ps : List Nat) (o : Nat) (bs : List Byte) : (s.writeJobData ps o bs).pending = s.pending := rfl
@[simp] theorem State.writeJobData_raised (s : State) (ps : List Nat) (o : Nat) (bs : List Byte) : (s.writeJobData ps o bs).raised = s.raised := rfl
@[simp] theorem State.writeJobData_draws (s : State) (ps : List Nat) (o : Nat) (bs : List Byte) : (s.writeJobData ps o bs).draws = s.draws := rfl
@[simp] theorem State.writeJobData_ports (s : State) (ps : List Nat) (o : Nat) (bs : List Byte) : (s.writeJobData ps o bs).ports = s.ports := rfl
@[simp] theorem State.writeJobData_syncs (s : State) (ps : List Nat) (o : Nat) (bs : List Byte) : (s.writeJobData ps o bs).syncs = s.syncs := rfl
@[simp] theorem State.writeJobData_sups (s : State) (ps : List Nat) (o : Nat) (bs : List Byte) : (s.writeJobData ps o bs).sups = s.sups := rfl
@[simp] theorem State.writeJobData_tester (s : State) (ps : List Nat) (o : Nat) (bs : List Byte) : (s.writeJobData ps o bs).tester = s.tester := rfl
@[simp] theorem State.writeJobData_table (s : State) (ps : List Nat) (o : Nat) (bs : List Byte) : (s.writeJobData ps o bs).table = s.table := rfl
@[simp] theorem State.writeJobData_uplink (s : State) (ps : List Nat) (o : Nat) (bs : List Byte) : (s.writeJobData ps o bs).uplink = s.uplink := rfl
@[simp] theorem State.writeJobData_intake (s : State) (ps : List Nat) (o : Nat) (bs : List Byte) : (s.writeJobData ps o bs).intake = s.intake := rfl
@[simp] theorem State.writeJobData_delivery (s : State) (ps : List Nat) (o : Nat) (bs : List Byte) : (s.writeJobData ps o bs).delivery = s.delivery := rfl
@[simp] theorem State.writeJobData_mgmt (s : State) (ps : List Nat) (o : Nat) (bs : List Byte) : (s.writeJobData ps o bs).mgmt = s.mgmt := rfl
@[simp] theorem State.writeJobData_time (s : State) (ps : List Nat) (o : Nat) (bs : List Byte) : (s.writeJobData ps o bs).time = s.time := rfl
@[simp] theorem State.writeJobData_port (s : State) (ps : List Nat) (o : Nat) (bs : List Byte) (y : SegIx) : (s.writeJobData ps o bs).port y = s.port y := rfl
@[simp] theorem State.writeJobData_sup (s : State) (ps : List Nat) (o : Nat) (bs : List Byte) (y : SegIx) : (s.writeJobData ps o bs).sup y = s.sup y := rfl
@[simp] theorem State.writeJobData_job (s : State) (ps : List Nat) (o : Nat) (bs : List Byte) (y : Half) : (s.writeJobData ps o bs).job y = s.job y := rfl
@[simp] theorem State.writeJobData_printer (s : State) (ps : List Nat) (o : Nat) (bs : List Byte) (y : Nat) : (s.writeJobData ps o bs).printer y = s.printer y := rfl
@[simp] theorem State.writeJobData_group (s : State) (ps : List Nat) (o : Nat) (bs : List Byte) (y : Nat) : (s.writeJobData ps o bs).group y = s.group y := rfl

/-! ### Counting on the uplink's counters. -/

@[simp] theorem State.countUplink_pending (s : State) (f : UplinkCounters → UplinkCounters) : (s.countUplink f).pending = s.pending := rfl
@[simp] theorem State.countUplink_raised (s : State) (f : UplinkCounters → UplinkCounters) : (s.countUplink f).raised = s.raised := rfl
@[simp] theorem State.countUplink_draws (s : State) (f : UplinkCounters → UplinkCounters) : (s.countUplink f).draws = s.draws := rfl
@[simp] theorem State.countUplink_ports (s : State) (f : UplinkCounters → UplinkCounters) : (s.countUplink f).ports = s.ports := rfl
@[simp] theorem State.countUplink_syncs (s : State) (f : UplinkCounters → UplinkCounters) : (s.countUplink f).syncs = s.syncs := rfl
@[simp] theorem State.countUplink_sups (s : State) (f : UplinkCounters → UplinkCounters) : (s.countUplink f).sups = s.sups := rfl
@[simp] theorem State.countUplink_tester (s : State) (f : UplinkCounters → UplinkCounters) : (s.countUplink f).tester = s.tester := rfl
@[simp] theorem State.countUplink_table (s : State) (f : UplinkCounters → UplinkCounters) : (s.countUplink f).table = s.table := rfl
@[simp] theorem State.countUplink_pool (s : State) (f : UplinkCounters → UplinkCounters) : (s.countUplink f).pool = s.pool := rfl
@[simp] theorem State.countUplink_intake (s : State) (f : UplinkCounters → UplinkCounters) : (s.countUplink f).intake = s.intake := rfl
@[simp] theorem State.countUplink_delivery (s : State) (f : UplinkCounters → UplinkCounters) : (s.countUplink f).delivery = s.delivery := rfl
@[simp] theorem State.countUplink_mgmt (s : State) (f : UplinkCounters → UplinkCounters) : (s.countUplink f).mgmt = s.mgmt := rfl
@[simp] theorem State.countUplink_time (s : State) (f : UplinkCounters → UplinkCounters) : (s.countUplink f).time = s.time := rfl
@[simp] theorem State.countUplink_port (s : State) (f : UplinkCounters → UplinkCounters) (y : SegIx) : (s.countUplink f).port y = s.port y := rfl
@[simp] theorem State.countUplink_sup (s : State) (f : UplinkCounters → UplinkCounters) (y : SegIx) : (s.countUplink f).sup y = s.sup y := rfl
@[simp] theorem State.countUplink_job (s : State) (f : UplinkCounters → UplinkCounters) (y : Half) : (s.countUplink f).job y = s.job y := rfl
@[simp] theorem State.countUplink_printer (s : State) (f : UplinkCounters → UplinkCounters) (y : Nat) : (s.countUplink f).printer y = s.printer y := rfl
@[simp] theorem State.countUplink_group (s : State) (f : UplinkCounters → UplinkCounters) (y : Nat) : (s.countUplink f).group y = s.group y := rfl

/-! ### Emptying the receive buffer. -/

@[simp] theorem State.bufferEmptied_pending (s : State) : (s.bufferEmptied).pending = s.pending := rfl
@[simp] theorem State.bufferEmptied_raised (s : State) : (s.bufferEmptied).raised = s.raised := rfl
@[simp] theorem State.bufferEmptied_draws (s : State) : (s.bufferEmptied).draws = s.draws := rfl
@[simp] theorem State.bufferEmptied_ports (s : State) : (s.bufferEmptied).ports = s.ports := rfl
@[simp] theorem State.bufferEmptied_syncs (s : State) : (s.bufferEmptied).syncs = s.syncs := rfl
@[simp] theorem State.bufferEmptied_sups (s : State) : (s.bufferEmptied).sups = s.sups := rfl
@[simp] theorem State.bufferEmptied_tester (s : State) : (s.bufferEmptied).tester = s.tester := rfl
@[simp] theorem State.bufferEmptied_table (s : State) : (s.bufferEmptied).table = s.table := rfl
@[simp] theorem State.bufferEmptied_uplink (s : State) : (s.bufferEmptied).uplink = s.uplink := rfl
@[simp] theorem State.bufferEmptied_pool (s : State) : (s.bufferEmptied).pool = s.pool := rfl
@[simp] theorem State.bufferEmptied_intake (s : State) : (s.bufferEmptied).intake = s.intake := rfl
@[simp] theorem State.bufferEmptied_delivery (s : State) : (s.bufferEmptied).delivery = s.delivery := rfl
@[simp] theorem State.bufferEmptied_time (s : State) : (s.bufferEmptied).time = s.time := rfl
@[simp] theorem State.bufferEmptied_port (s : State) (y : SegIx) : (s.bufferEmptied).port y = s.port y := rfl
@[simp] theorem State.bufferEmptied_sup (s : State) (y : SegIx) : (s.bufferEmptied).sup y = s.sup y := rfl
@[simp] theorem State.bufferEmptied_job (s : State) (y : Half) : (s.bufferEmptied).job y = s.job y := rfl
@[simp] theorem State.bufferEmptied_printer (s : State) (y : Nat) : (s.bufferEmptied).printer y = s.printer y := rfl
@[simp] theorem State.bufferEmptied_group (s : State) (y : Nat) : (s.bufferEmptied).group y = s.group y := rfl

/-! ### Filling the reply slot. -/

@[simp] theorem State.fileReply_pending (s : State) (m : Msg) : (s.fileReply m).pending = s.pending := rfl
@[simp] theorem State.fileReply_raised (s : State) (m : Msg) : (s.fileReply m).raised = s.raised := rfl
@[simp] theorem State.fileReply_draws (s : State) (m : Msg) : (s.fileReply m).draws = s.draws := rfl
@[simp] theorem State.fileReply_ports (s : State) (m : Msg) : (s.fileReply m).ports = s.ports := rfl
@[simp] theorem State.fileReply_syncs (s : State) (m : Msg) : (s.fileReply m).syncs = s.syncs := rfl
@[simp] theorem State.fileReply_sups (s : State) (m : Msg) : (s.fileReply m).sups = s.sups := rfl
@[simp] theorem State.fileReply_tester (s : State) (m : Msg) : (s.fileReply m).tester = s.tester := rfl
@[simp] theorem State.fileReply_table (s : State) (m : Msg) : (s.fileReply m).table = s.table := rfl
@[simp] theorem State.fileReply_uplink (s : State) (m : Msg) : (s.fileReply m).uplink = s.uplink := rfl
@[simp] theorem State.fileReply_pool (s : State) (m : Msg) : (s.fileReply m).pool = s.pool := rfl
@[simp] theorem State.fileReply_intake (s : State) (m : Msg) : (s.fileReply m).intake = s.intake := rfl
@[simp] theorem State.fileReply_delivery (s : State) (m : Msg) : (s.fileReply m).delivery = s.delivery := rfl
@[simp] theorem State.fileReply_time (s : State) (m : Msg) : (s.fileReply m).time = s.time := rfl
@[simp] theorem State.fileReply_port (s : State) (m : Msg) (y : SegIx) : (s.fileReply m).port y = s.port y := rfl
@[simp] theorem State.fileReply_sup (s : State) (m : Msg) (y : SegIx) : (s.fileReply m).sup y = s.sup y := rfl
@[simp] theorem State.fileReply_job (s : State) (m : Msg) (y : Half) : (s.fileReply m).job y = s.job y := rfl
@[simp] theorem State.fileReply_printer (s : State) (m : Msg) (y : Nat) : (s.fileReply m).printer y = s.printer y := rfl
@[simp] theorem State.fileReply_group (s : State) (m : Msg) (y : Nat) : (s.fileReply m).group y = s.group y := rfl

/-! ### The close of a command. -/

@[simp] theorem State.settle_pending (s : State) : (s.settle).pending = s.pending := rfl
@[simp] theorem State.settle_raised (s : State) : (s.settle).raised = s.raised := rfl
@[simp] theorem State.settle_draws (s : State) : (s.settle).draws = s.draws := rfl
@[simp] theorem State.settle_ports (s : State) : (s.settle).ports = s.ports := rfl
@[simp] theorem State.settle_syncs (s : State) : (s.settle).syncs = s.syncs := rfl
@[simp] theorem State.settle_sups (s : State) : (s.settle).sups = s.sups := rfl
@[simp] theorem State.settle_tester (s : State) : (s.settle).tester = s.tester := rfl
@[simp] theorem State.settle_table (s : State) : (s.settle).table = s.table := rfl
@[simp] theorem State.settle_uplink (s : State) : (s.settle).uplink = s.uplink := rfl
@[simp] theorem State.settle_pool (s : State) : (s.settle).pool = s.pool := rfl
@[simp] theorem State.settle_intake (s : State) : (s.settle).intake = s.intake := rfl
@[simp] theorem State.settle_delivery (s : State) : (s.settle).delivery = s.delivery := rfl
@[simp] theorem State.settle_time (s : State) : (s.settle).time = s.time := rfl
@[simp] theorem State.settle_port (s : State) (y : SegIx) : (s.settle).port y = s.port y := rfl
@[simp] theorem State.settle_sup (s : State) (y : SegIx) : (s.settle).sup y = s.sup y := rfl
@[simp] theorem State.settle_job (s : State) (y : Half) : (s.settle).job y = s.job y := rfl
@[simp] theorem State.settle_printer (s : State) (y : Nat) : (s.settle).printer y = s.printer y := rfl
@[simp] theorem State.settle_group (s : State) (y : Nat) : (s.settle).group y = s.group y := rfl

/-! ### The tester setting a line code. -/

@[simp] theorem State.setLineCode_pending (s : State) (i : SegIx) (k : LoadCode) : (s.setLineCode i k).pending = s.pending := rfl
@[simp] theorem State.setLineCode_raised (s : State) (i : SegIx) (k : LoadCode) : (s.setLineCode i k).raised = s.raised := rfl
@[simp] theorem State.setLineCode_draws (s : State) (i : SegIx) (k : LoadCode) : (s.setLineCode i k).draws = s.draws := rfl
@[simp] theorem State.setLineCode_syncs (s : State) (i : SegIx) (k : LoadCode) : (s.setLineCode i k).syncs = s.syncs := rfl
@[simp] theorem State.setLineCode_sups (s : State) (i : SegIx) (k : LoadCode) : (s.setLineCode i k).sups = s.sups := rfl
@[simp] theorem State.setLineCode_tester (s : State) (i : SegIx) (k : LoadCode) : (s.setLineCode i k).tester = s.tester := rfl
@[simp] theorem State.setLineCode_table (s : State) (i : SegIx) (k : LoadCode) : (s.setLineCode i k).table = s.table := rfl
@[simp] theorem State.setLineCode_uplink (s : State) (i : SegIx) (k : LoadCode) : (s.setLineCode i k).uplink = s.uplink := rfl
@[simp] theorem State.setLineCode_pool (s : State) (i : SegIx) (k : LoadCode) : (s.setLineCode i k).pool = s.pool := rfl
@[simp] theorem State.setLineCode_intake (s : State) (i : SegIx) (k : LoadCode) : (s.setLineCode i k).intake = s.intake := rfl
@[simp] theorem State.setLineCode_delivery (s : State) (i : SegIx) (k : LoadCode) : (s.setLineCode i k).delivery = s.delivery := rfl
@[simp] theorem State.setLineCode_mgmt (s : State) (i : SegIx) (k : LoadCode) : (s.setLineCode i k).mgmt = s.mgmt := rfl
@[simp] theorem State.setLineCode_time (s : State) (i : SegIx) (k : LoadCode) : (s.setLineCode i k).time = s.time := rfl
@[simp] theorem State.setLineCode_sup (s : State) (i : SegIx) (k : LoadCode) (y : SegIx) : (s.setLineCode i k).sup y = s.sup y := rfl
@[simp] theorem State.setLineCode_job (s : State) (i : SegIx) (k : LoadCode) (y : Half) : (s.setLineCode i k).job y = s.job y := rfl
@[simp] theorem State.setLineCode_printer (s : State) (i : SegIx) (k : LoadCode) (y : Nat) : (s.setLineCode i k).printer y = s.printer y := rfl
@[simp] theorem State.setLineCode_group (s : State) (i : SegIx) (k : LoadCode) (y : Nat) : (s.setLineCode i k).group y = s.group y := rfl

/-! ### Withdrawing a page's entries. -/

@[simp] theorem State.withdrawPage_pending (s : State) (p : Nat) : (s.withdrawPage p).pending = s.pending := rfl
@[simp] theorem State.withdrawPage_raised (s : State) (p : Nat) : (s.withdrawPage p).raised = s.raised := rfl
@[simp] theorem State.withdrawPage_draws (s : State) (p : Nat) : (s.withdrawPage p).draws = s.draws := rfl
@[simp] theorem State.withdrawPage_syncs (s : State) (p : Nat) : (s.withdrawPage p).syncs = s.syncs := rfl
@[simp] theorem State.withdrawPage_sups (s : State) (p : Nat) : (s.withdrawPage p).sups = s.sups := rfl
@[simp] theorem State.withdrawPage_tester (s : State) (p : Nat) : (s.withdrawPage p).tester = s.tester := rfl
@[simp] theorem State.withdrawPage_table (s : State) (p : Nat) : (s.withdrawPage p).table = s.table := rfl
@[simp] theorem State.withdrawPage_pool (s : State) (p : Nat) : (s.withdrawPage p).pool = s.pool := rfl
@[simp] theorem State.withdrawPage_intake (s : State) (p : Nat) : (s.withdrawPage p).intake = s.intake := rfl
@[simp] theorem State.withdrawPage_delivery (s : State) (p : Nat) : (s.withdrawPage p).delivery = s.delivery := rfl
@[simp] theorem State.withdrawPage_mgmt (s : State) (p : Nat) : (s.withdrawPage p).mgmt = s.mgmt := rfl
@[simp] theorem State.withdrawPage_time (s : State) (p : Nat) : (s.withdrawPage p).time = s.time := rfl
@[simp] theorem State.withdrawPage_sup (s : State) (p : Nat) (y : SegIx) : (s.withdrawPage p).sup y = s.sup y := rfl
@[simp] theorem State.withdrawPage_job (s : State) (p : Nat) (y : Half) : (s.withdrawPage p).job y = s.job y := rfl
@[simp] theorem State.withdrawPage_printer (s : State) (p : Nat) (y : Nat) : (s.withdrawPage p).printer y = s.printer y := rfl
@[simp] theorem State.withdrawPage_group (s : State) (p : Nat) (y : Nat) : (s.withdrawPage p).group y = s.group y := rfl

/-! ### The field each update writes -/

@[simp] theorem State.raise_raised (s : State) (r : Raised) : (s.raise r).raised = s.raised ++ [r] := rfl
@[simp] theorem State.draw_draws (s : State) : s.draw.draws = s.draws + 1 := rfl
@[simp] theorem State.setPort_ports (s : State) (i : SegIx) (p : Port) : (s.setPort i p).ports = s.ports.set i p := rfl
@[simp] theorem State.setSup_sups (s : State) (i : SegIx) (c : Supervision) : (s.setSup i c).sups = s.sups.set i c := rfl
@[simp] theorem State.setContext_context (s : State) (c : Option TestContext) : (s.setContext c).tester.context = c := rfl
@[simp] theorem State.setPending_context (s : State) (i : SegIx) (v : Bool) :
    (s.setPending i v).tester.context = s.tester.context := rfl
@[simp] theorem State.writeCapture_context (s : State) (i : SegIx) (c : Capture) :
    (s.writeCapture i c).tester.context = s.tester.context := rfl
@[simp] theorem State.setEntry_table (s : State) (n : Byte) (e : Station) : (s.setEntry n e).table = s.table.setEntry n e := rfl
@[simp] theorem State.countIntake_jobs (s : State) (f : IntakeCounters → IntakeCounters) :
    (s.countIntake f).intake.jobs = s.intake.jobs := rfl
@[simp] theorem State.countIntake_counters (s : State) (f : IntakeCounters → IntakeCounters) :
    (s.countIntake f).intake.counters = f s.intake.counters := rfl
@[simp] theorem State.setPrinter_groups (s : State) (p : Nat) (e : Printer) :
    (s.setPrinter p e).delivery.groups = s.delivery.groups := rfl
@[simp] theorem State.noteLowest_mem (s : State) : s.noteLowest.pool.mem = s.pool.mem := rfl
@[simp] theorem State.noteLowest_frames (s : State) : s.noteLowest.pool.frames = s.pool.frames := rfl
@[simp] theorem State.writeJobData_mem (s : State) (ps : List Nat) (o : Nat) (bs : List Byte) :
    (s.writeJobData ps o bs).pool.mem = streamWrite s.pool.mem ps o bs := rfl
@[simp] theorem State.writeJobData_frames (s : State) (ps : List Nat) (o : Nat) (bs : List Byte) :
    (s.writeJobData ps o bs).pool.frames = s.pool.frames := rfl
@[simp] theorem State.countUplink_fwd (s : State) (f : UplinkCounters → UplinkCounters) :
    (s.countUplink f).uplink.fwd = s.uplink.fwd := rfl
@[simp] theorem State.bufferEmptied_mgmt (s : State) : s.bufferEmptied.mgmt = { s.mgmt with rx := emptyBuffer } := rfl
@[simp] theorem State.fileReply_mgmt (s : State) (m : Msg) :
    (s.fileReply m).mgmt = { s.mgmt with reply := some m, refusalOlder := s.mgmt.refusal.isSome } := rfl
@[simp] theorem State.settle_mgmt (s : State) : s.settle.mgmt = s.mgmt.takeNext := rfl
theorem State.done_eq (s : State) : s.done = .next s.settle := rfl

/-! ### Passing a notice (R176): everything but the Management Port stays -/

theorem State.notify_eq (s : State) (n : Notice) : s.notify n = { s with mgmt := s.mgmt.noted n } := by
  unfold State.notify Mgmt.noted
  split
  · split <;> rfl
  · rfl

@[simp] theorem State.notify_pending (s : State) (n : Notice) : (s.notify n).pending = s.pending := by rw [State.notify_eq]
@[simp] theorem State.notify_raised (s : State) (n : Notice) : (s.notify n).raised = s.raised := by rw [State.notify_eq]
@[simp] theorem State.notify_draws (s : State) (n : Notice) : (s.notify n).draws = s.draws := by rw [State.notify_eq]
@[simp] theorem State.notify_ports (s : State) (n : Notice) : (s.notify n).ports = s.ports := by rw [State.notify_eq]
@[simp] theorem State.notify_syncs (s : State) (n : Notice) : (s.notify n).syncs = s.syncs := by rw [State.notify_eq]
@[simp] theorem State.notify_sups (s : State) (n : Notice) : (s.notify n).sups = s.sups := by rw [State.notify_eq]
@[simp] theorem State.notify_tester (s : State) (n : Notice) : (s.notify n).tester = s.tester := by rw [State.notify_eq]
@[simp] theorem State.notify_table (s : State) (n : Notice) : (s.notify n).table = s.table := by rw [State.notify_eq]
@[simp] theorem State.notify_uplink (s : State) (n : Notice) : (s.notify n).uplink = s.uplink := by rw [State.notify_eq]
@[simp] theorem State.notify_pool (s : State) (n : Notice) : (s.notify n).pool = s.pool := by rw [State.notify_eq]
@[simp] theorem State.notify_intake (s : State) (n : Notice) : (s.notify n).intake = s.intake := by rw [State.notify_eq]
@[simp] theorem State.notify_delivery (s : State) (n : Notice) : (s.notify n).delivery = s.delivery := by rw [State.notify_eq]
@[simp] theorem State.notify_mgmt (s : State) (n : Notice) : (s.notify n).mgmt = s.mgmt.noted n := by rw [State.notify_eq]
@[simp] theorem State.notify_time (s : State) (n : Notice) : (s.notify n).time = s.time := by rw [State.notify_eq]
@[simp] theorem State.notify_port (s : State) (n : Notice) (j : SegIx) : (s.notify n).port j = s.port j := by
  rw [State.notify_eq]; rfl
@[simp] theorem State.notify_sup (s : State) (n : Notice) (j : SegIx) : (s.notify n).sup j = s.sup j := by
  rw [State.notify_eq]; rfl
@[simp] theorem State.notify_job (s : State) (n : Notice) (j : Half) : (s.notify n).job j = s.job j := by
  rw [State.notify_eq]; rfl
@[simp] theorem State.notify_printer (s : State) (n : Notice) (j : Nat) : (s.notify n).printer j = s.printer j := by
  rw [State.notify_eq]; rfl
@[simp] theorem State.notify_group (s : State) (n : Notice) (j : Nat) : (s.notify n).group j = s.group j := by
  rw [State.notify_eq]; rfl

/-- A notice leaves every register of the Management Port but the queue and the notices-lost flag (R176). -/
theorem Mgmt.noted_eq (m : Mgmt) (n : Notice) :
    m.noted n = { m with notices := (m.noted n).notices, lost := (m.noted n).lost } := by
  unfold Mgmt.noted
  split
  · split <;> rfl
  · rfl

/-- What a notice does to the queue and the flag (R176). -/
theorem Mgmt.noted_cases (m : Mgmt) (n : Notice) :
    (m.enabled.getLsbD n.index = false ∧ m.noted n = m) ∨
    (m.enabled.getLsbD n.index = true ∧ m.notices.length < noticeCapacity ∧ m.noted n = { m with notices := m.notices ++ [n] }) ∨
    (m.enabled.getLsbD n.index = true ∧ noticeCapacity ≤ m.notices.length ∧ m.noted n = { m with lost := true }) := by
  unfold Mgmt.noted
  cases h : m.enabled.getLsbD n.index
  · exact .inl ⟨rfl, rfl⟩
  · by_cases hl : m.notices.length < noticeCapacity
    · exact .inr (.inl ⟨rfl, hl, by simp [hl]⟩)
    · exact .inr (.inr ⟨rfl, Nat.le_of_not_lt hl, by simp [hl]⟩)

/-- What the transmitter takes at the close of a command (R172): nothing while it sends or the reset pin is held, else an answer,
the one filled first when both slots hold one, else the head of the notice queue. -/
theorem Mgmt.takeNext_cases (m : Mgmt) :
    ((m.pinHeld = true ∨ m.sending.isSome = true) ∧ m.takeNext = m) ∨
    (m.pinHeld = false ∧ m.sending = none ∧
      ((m.refusal.isSome = true ∧ (m.refusalOlder = true ∨ m.reply = none) ∧ m.takeNext = { m with sending := some .refusal }) ∨
       (m.reply.isSome = true ∧ (m.refusalOlder = false ∨ m.refusal = none) ∧ m.takeNext = { m with sending := some .reply }) ∨
       (m.reply = none ∧ m.refusal = none ∧
         ((m.notices = [] ∧ m.takeNext = { m with opening := true }) ∨
          ∃ n rest, m.notices = n :: rest ∧ m.takeNext = { m with sending := some (.notice n), notices := rest })))) := by
  unfold Mgmt.takeNext
  cases hp : m.pinHeld <;> cases hs : m.sending <;> cases hr : m.refusal <;> cases ha : m.reply <;>
    cases ho : m.refusalOlder <;> simp_all
  all_goals cases hn : m.notices <;> simp_all

end Sys2Proof.Machine
end

