-- ==== Sys2Proof/Laws/Shapes.lean ====
section
/-! SUPPORT. The laws of the shapes the state is made of: one value per segment or sync entry, tables keyed by number, timers, and
the events raised between blocks. -/

namespace Sys2Proof.Machine

/-! ## One value per segment, per sync entry -/

@[simp] theorem Four.get_set_same {α : Type} (v : Four α) (i : SegIx) (a : α) : (v.set i a).get i = a := by
  match i with
  | 0 => rfl
  | 1 => rfl
  | 2 => rfl
  | 3 => rfl

theorem Four.get_set_ne {α : Type} (v : Four α) {i j : SegIx} (a : α) (h : j ≠ i) : (v.set i a).get j = v.get j := by
  match i, j with
  | 0, 0 => exact absurd rfl h
  | 1, 1 => exact absurd rfl h
  | 2, 2 => exact absurd rfl h
  | 3, 3 => exact absurd rfl h
  | 0, 1 => rfl
  | 0, 2 => rfl
  | 0, 3 => rfl
  | 1, 0 => rfl
  | 1, 2 => rfl
  | 1, 3 => rfl
  | 2, 0 => rfl
  | 2, 1 => rfl
  | 2, 3 => rfl
  | 3, 0 => rfl
  | 3, 1 => rfl
  | 3, 2 => rfl

theorem Four.get_set {α : Type} (v : Four α) (i j : SegIx) (a : α) : (v.set i a).get j = if j = i then a else v.get j := by
  by_cases h : j = i
  · subst h; simp
  · simp [h, Four.get_set_ne]

@[simp] theorem Four.set_set {α : Type} (v : Four α) (i : SegIx) (a b : α) : (v.set i a).set i b = v.set i b := by
  match i with
  | 0 => rfl
  | 1 => rfl
  | 2 => rfl
  | 3 => rfl

@[simp] theorem Four.set_get {α : Type} (v : Four α) (i : SegIx) : v.set i (v.get i) = v := by
  match i with
  | 0 => rfl
  | 1 => rfl
  | 2 => rfl
  | 3 => rfl

@[simp] theorem Four.get_map {α β : Type} (f : α → β) (v : Four α) (i : SegIx) : (v.map f).get i = f (v.get i) := by
  match i with
  | 0 => rfl
  | 1 => rfl
  | 2 => rfl
  | 3 => rfl

/-- Two quads with the same four values are the same. -/
theorem Four.ext_get {α : Type} {v w : Four α} (h : ∀ i, v.get i = w.get i) : v = w := by
  cases v; cases w
  have h0 := h 0; have h1 := h 1; have h2 := h 2; have h3 := h 3
  simp only [Four.get] at h0 h1 h2 h3
  simp [h0, h1, h2, h3]

@[simp] theorem Three.get_set_same {α : Type} (v : Three α) (i : SyncIx) (a : α) : (v.set i a).get i = a := by
  match i with
  | 0 => rfl
  | 1 => rfl
  | 2 => rfl

theorem Three.get_set_ne {α : Type} (v : Three α) {i j : SyncIx} (a : α) (h : j ≠ i) : (v.set i a).get j = v.get j := by
  match i, j with
  | 0, 0 => exact absurd rfl h
  | 1, 1 => exact absurd rfl h
  | 2, 2 => exact absurd rfl h
  | 0, 1 => rfl
  | 0, 2 => rfl
  | 1, 0 => rfl
  | 1, 2 => rfl
  | 2, 0 => rfl
  | 2, 1 => rfl

/-- Every segment number is in the list of segments. -/
@[simp] theorem mem_segments (i : SegIx) : i ∈ segments := by
  match i with
  | 0 => simp [segments]
  | 1 => simp [segments]
  | 2 => simp [segments]
  | 3 => simp [segments]

/-- A check over the four segments holds when it holds of each. -/
theorem segments_all {f : SegIx → Bool} : segments.all f = true ↔ ∀ i, f i = true := by
  simp [List.all_eq_true]

/-! ## Ports and contexts in the state -/

@[simp] theorem State.setPort_port_same (s : State) (i : SegIx) (p : Port) : (s.setPort i p).port i = p :=
  Four.get_set_same s.ports i p

theorem State.setPort_port_ne (s : State) {i j : SegIx} (p : Port) (h : j ≠ i) : (s.setPort i p).port j = s.port j :=
  Four.get_set_ne s.ports p h

theorem State.setPort_port (s : State) (i j : SegIx) (p : Port) : (s.setPort i p).port j = if j = i then p else s.port j :=
  Four.get_set s.ports i j p

@[simp] theorem State.setSup_sup_same (s : State) (i : SegIx) (c : Supervision) : (s.setSup i c).sup i = c :=
  Four.get_set_same s.sups i c

theorem State.setSup_sup_ne (s : State) {i j : SegIx} (c : Supervision) (h : j ≠ i) : (s.setSup i c).sup j = s.sup j :=
  Four.get_set_ne s.sups c h

theorem State.setSup_sup (s : State) (i j : SegIx) (c : Supervision) : (s.setSup i c).sup j = if j = i then c else s.sup j :=
  Four.get_set s.sups i j c

/-! ## Tables keyed by number -/

/-- An entry looked up is listed. -/
theorem tableGet_mem {β : Type} {t : List (Nat × β)} {k : Nat} {v : β} (h : tableGet t k = some v) : (k, v) ∈ t := by
  induction t with
  | nil => simp [tableGet] at h
  | cons e t ih =>
    obtain ⟨a, b⟩ := e
    unfold tableGet at h ih
    rw [List.lookup_cons] at h
    by_cases hk : k = a
    · subst hk
      simp only [beq_self_eq_true, Option.some.injEq] at h
      simp [h]
    · simp [beq_eq_false_iff_ne.mpr hk] at h
      exact List.mem_cons_of_mem _ (ih h)

/-- Looking a number up in a list none of whose numbers it is. -/
theorem tableGet_none {β : Type} {t : List (Nat × β)} {k : Nat} (h : ∀ e ∈ t, e.1 ≠ k) : tableGet t k = none := by
  induction t with
  | nil => rfl
  | cons e t ih =>
    obtain ⟨a, b⟩ := e
    have hne : k ≠ a := fun hh => h (a, b) (by simp) hh.symm
    have ih' := ih fun e he => h e (by simp [he])
    unfold tableGet at ih' ⊢
    rw [List.lookup_cons, beq_eq_false_iff_ne.mpr hne]
    simpa using ih'

theorem tableGet_append {β : Type} (t u : List (Nat × β)) (k : Nat) : tableGet (t ++ u) k = (tableGet t k).or (tableGet u k) := by
  induction t with
  | nil => simp [tableGet]
  | cons e t ih =>
    obtain ⟨a, b⟩ := e
    unfold tableGet at ih ⊢
    rw [List.cons_append, List.lookup_cons, List.lookup_cons]
    cases h : k == a <;> simp [ih]

/-- Filtering on the number keeps exactly the entries the test keeps. -/
theorem tableGet_filter {β : Type} (f : Nat → Bool) (t : List (Nat × β)) (k : Nat) :
    tableGet (t.filter fun e => f e.1) k = if f k then tableGet t k else none := by
  induction t with
  | nil => simp [tableGet]
  | cons e t ih =>
    obtain ⟨a, b⟩ := e
    unfold tableGet at ih ⊢
    rw [List.filter_cons]
    by_cases hk : k = a
    · subst hk
      cases hf : f k
      · simp [hf] at ih ⊢
        exact ih
      · simp
    · have hb : (k == a) = false := beq_eq_false_iff_ne.mpr hk
      cases hf : f a
      · simp [ih, List.lookup_cons, hb]
      · simp [ih, List.lookup_cons, hb]

/-- An entry put is the one read back. -/
@[simp] theorem tableGet_put_same {β : Type} (t : List (Nat × β)) (k : Nat) (v : β) : tableGet (tablePut t k v) k = some v := by
  unfold tablePut
  rw [tableGet_append, tableGet_filter (fun n => decide (n < k))]
  simp [tableGet]

/-- Putting an entry leaves every other. -/
theorem tableGet_put_ne {β : Type} (t : List (Nat × β)) {k j : Nat} (v : β) (h : j ≠ k) :
    tableGet (tablePut t k v) j = tableGet t j := by
  unfold tablePut
  rw [tableGet_append, tableGet_filter (fun n => decide (n < k))]
  have hc : tableGet ((k, v) :: t.filter fun e => decide (k < e.1)) j = if k < j then tableGet t j else none := by
    have := tableGet_filter (fun n => decide (k < n)) t j
    unfold tableGet at this ⊢
    rw [List.lookup_cons, beq_eq_false_iff_ne.mpr h]
    simpa using this
  rw [hc]
  rcases Nat.lt_or_gt_of_ne h with hl | hl
  · simp [hl, Nat.not_lt.mpr (Nat.le_of_lt hl)]
  · simp [hl, Nat.not_lt.mpr (Nat.le_of_lt hl)]

/-- A dropped entry is gone. -/
@[simp] theorem tableGet_drop_same {β : Type} (t : List (Nat × β)) (k : Nat) : tableGet (tableDrop t k) k = none := by
  unfold tableDrop
  rw [tableGet_filter (fun n => decide (n ≠ k))]
  simp

/-- Dropping an entry leaves every other. -/
theorem tableGet_drop_ne {β : Type} (t : List (Nat × β)) {k j : Nat} (h : j ≠ k) : tableGet (tableDrop t k) j = tableGet t j := by
  unfold tableDrop
  rw [tableGet_filter (fun n => decide (n ≠ k))]
  simp [h]

/-- The entries after a put: the new one, and the others as they were. -/
theorem mem_tablePut {β : Type} {t : List (Nat × β)} {k : Nat} {v : β} {e : Nat × β} :
    e ∈ tablePut t k v ↔ e = (k, v) ∨ (e ∈ t ∧ e.1 ≠ k) := by
  unfold tablePut
  simp only [List.mem_append, List.mem_cons, List.mem_filter, decide_eq_true_eq]
  constructor
  · rintro (⟨h, hl⟩ | rfl | ⟨h, hl⟩)
    · exact .inr ⟨h, Nat.ne_of_lt hl⟩
    · exact .inl rfl
    · exact .inr ⟨h, Nat.ne_of_gt hl⟩
  · rintro (rfl | ⟨h, hn⟩)
    · exact .inr (.inl rfl)
    · rcases Nat.lt_or_gt_of_ne hn with hl | hl
      · exact .inl ⟨h, hl⟩
      · exact .inr (.inr ⟨h, hl⟩)

/-- The entries after a drop. -/
theorem mem_tableDrop {β : Type} {t : List (Nat × β)} {k : Nat} {e : Nat × β} : e ∈ tableDrop t k ↔ e ∈ t ∧ e.1 ≠ k := by
  simp [tableDrop]

/-! ## Rising numbers -/

/-- Rising numbers, said of every later entry. -/
theorem risingKeys_cons {β : Type} {e : Nat × β} {t : List (Nat × β)} :
    risingKeys (e :: t) = true ↔ (∀ x ∈ t, e.1 < x.1) ∧ risingKeys t = true := by
  induction t generalizing e with
  | nil => simp [risingKeys]
  | cons a t ih =>
    simp only [risingKeys, Bool.and_eq_true, decide_eq_true_eq]
    constructor
    · rintro ⟨h1, h2⟩
      refine ⟨fun x hx => ?_, h2⟩
      rcases List.mem_cons.mp hx with rfl | hx
      · exact h1
      · exact Nat.lt_trans h1 ((ih.mp h2).1 x hx)
    · rintro ⟨h1, h2⟩
      exact ⟨h1 a (by simp), h2⟩

/-- A filtered table still rises. -/
theorem risingKeys_filter {β : Type} (f : Nat × β → Bool) {t : List (Nat × β)} (h : risingKeys t = true) :
    risingKeys (t.filter f) = true := by
  induction t with
  | nil => rfl
  | cons e t ih =>
    have ⟨h1, h2⟩ := risingKeys_cons.mp h
    rw [List.filter_cons]
    split
    · exact risingKeys_cons.mpr ⟨fun x hx => h1 x (List.mem_filter.mp hx).1, ih h2⟩
    · exact ih h2

/-- Two rising tables, the first below the second, join into one. -/
theorem risingKeys_append {β : Type} {t u : List (Nat × β)} (ht : risingKeys t = true) (hu : risingKeys u = true)
    (h : ∀ a ∈ t, ∀ b ∈ u, a.1 < b.1) : risingKeys (t ++ u) = true := by
  induction t with
  | nil => exact hu
  | cons e t ih =>
    have ⟨h1, h2⟩ := risingKeys_cons.mp ht
    refine risingKeys_cons.mpr ⟨fun x hx => ?_, ih h2 fun a ha b hb => h a (by simp [ha]) b hb⟩
    rcases List.mem_append.mp hx with hx | hx
    · exact h1 x hx
    · exact h e (by simp) x hx

/-- A put keeps the numbers rising. -/
theorem risingKeys_put {β : Type} (t : List (Nat × β)) (k : Nat) (v : β) (h : risingKeys t = true) :
    risingKeys (tablePut t k v) = true := by
  unfold tablePut
  refine risingKeys_append (risingKeys_filter _ h) (risingKeys_cons.mpr ⟨fun x hx => ?_, risingKeys_filter _ h⟩) ?_
  · simpa using (List.mem_filter.mp hx).2
  · intro a ha b hb
    have hak : a.1 < k := by simpa using (List.mem_filter.mp ha).2
    rcases List.mem_cons.mp hb with rfl | hb
    · exact hak
    · exact Nat.lt_trans hak (by simpa using (List.mem_filter.mp hb).2)

/-- A drop keeps the numbers rising. -/
theorem risingKeys_drop {β : Type} (t : List (Nat × β)) (k : Nat) (h : risingKeys t = true) : risingKeys (tableDrop t k) = true :=
  risingKeys_filter _ h

/-! ## Timers -/

@[simp] theorem Timer.tick_isRunning (t : Timer) : t.tick.isRunning = t.isRunning := by cases t <;> rfl

/-! ## Events raised between blocks -/

/-- The event a command takes is the oldest its test recognises; the others stay in their order (log entry 5). -/
theorem takeRaised_some {α : Type} {f : Raised → Option α} {rs : List Raised} {a : α} {rest : List Raised}
    (h : takeRaised f rs = some (a, rest)) :
    ∃ pre r post, rs = pre ++ r :: post ∧ rest = pre ++ post ∧ f r = some a ∧ ∀ x ∈ pre, f x = none := by
  induction rs generalizing a rest with
  | nil => simp [takeRaised] at h
  | cons r rs ih =>
    unfold takeRaised at h
    cases hf : f r with
    | some b =>
      simp only [hf, Option.some.injEq, Prod.mk.injEq] at h
      obtain ⟨rfl, rfl⟩ := h
      exact ⟨[], r, rs, rfl, rfl, hf, by simp⟩
    | none =>
      cases ht : takeRaised f rs with
      | none => simp [hf, ht] at h
      | some x =>
        obtain ⟨b, more⟩ := x
        simp only [hf, ht, Option.some.injEq, Prod.mk.injEq] at h
        obtain ⟨rfl, rfl⟩ := h
        obtain ⟨pre, q, post, h1, h2, h3, h4⟩ := ih ht
        refine ⟨r :: pre, q, post, by simp [h1], by simp [h2], h3, fun x hx => ?_⟩
        rcases List.mem_cons.mp hx with rfl | hx
        · exact hf
        · exact h4 x hx

/-- Where no raised event is recognised, none is taken. -/
theorem takeRaised_none {α : Type} {f : Raised → Option α} {rs : List Raised} (h : ∀ x ∈ rs, f x = none) :
    takeRaised f rs = none := by
  induction rs with
  | nil => rfl
  | cons r rs ih =>
    unfold takeRaised
    rw [h r (by simp), ih fun x hx => h x (by simp [hx])]

/-- The event taken is the first one recognised. -/
theorem takeRaised_first {α : Type} {f : Raised → Option α} {pre post : List Raised} {r : Raised} {a : α} (hr : f r = some a)
    (hp : ∀ x ∈ pre, f x = none) : takeRaised f (pre ++ r :: post) = some (a, pre ++ post) := by
  induction pre with
  | nil => simp [takeRaised, hr]
  | cons p pre ih =>
    simp only [List.cons_append, takeRaised]
    rw [hp p (by simp), ih fun x hx => hp x (by simp [hx])]

theorem State.take_of_some {α : Type} {s : State} {f : Raised → Option α} {act : α → State → State} {a : α} {rest : List Raised}
    (h : takeRaised f s.raised = some (a, rest)) : s.take f act = act a { s with raised := rest } := by
  unfold State.take; rw [h]

theorem State.take_of_none {α : Type} {s : State} {f : Raised → Option α} {act : α → State → State}
    (h : takeRaised f s.raised = none) : s.take f act = s := by
  unfold State.take; rw [h]

end Sys2Proof.Machine
end

