-- ==== Sys2Proof/Laws/Memory.lean ====
section
/-! SUPPORT. The laws of the pool memory: reading after writing, and the canonical form every write keeps (R123, R124). -/

namespace Sys2Proof.Machine

/-- The canonical form, said cell by cell. -/
theorem memWf_cons {c : Host.Cell} {m : List Host.Cell} :
    memWf (c :: m) = true ↔ c.2 ≠ unwrittenByte ∧ (∀ x ∈ m, c.1 < x.1) ∧ memWf m = true := by
  induction m generalizing c with
  | nil => simp [memWf]
  | cons d m ih =>
    simp only [memWf, Bool.and_eq_true, decide_eq_true_eq]
    constructor
    · rintro ⟨⟨h1, h2⟩, h3⟩
      refine ⟨h1, fun x hx => ?_, h3⟩
      rcases List.mem_cons.mp hx with rfl | hx
      · exact h2
      · exact Nat.lt_trans h2 ((ih.mp h3).2.1 x hx)
    · rintro ⟨h1, h2, h3⟩
      exact ⟨⟨h1, h2 d (by simp)⟩, h3⟩

/-- Part of a canonical memory is canonical. -/
theorem memWf_filter (f : Host.Cell → Bool) {m : List Host.Cell} (h : memWf m = true) : memWf (m.filter f) = true := by
  induction m with
  | nil => rfl
  | cons c m ih =>
    have ⟨h1, h2, h3⟩ := memWf_cons.mp h
    rw [List.filter_cons]
    split
    · exact memWf_cons.mpr ⟨h1, fun x hx => h2 x (List.mem_filter.mp hx).1, ih h3⟩
    · exact ih h3

/-- Two canonical memories, the first below the second, join into one. -/
theorem memWf_append {m n : List Host.Cell} (hm : memWf m = true) (hn : memWf n = true)
    (h : ∀ a ∈ m, ∀ b ∈ n, a.1 < b.1) : memWf (m ++ n) = true := by
  induction m with
  | nil => exact hn
  | cons c m ih =>
    have ⟨h1, h2, h3⟩ := memWf_cons.mp hm
    refine memWf_cons.mpr ⟨h1, fun x hx => ?_, ih h3 fun a ha b hb => h a (by simp [ha]) b hb⟩
    rcases List.mem_append.mp hx with hx | hx
    · exact h2 x hx
    · exact h c (by simp) x hx

/-- The cells of a run of bytes lie in its addresses. -/
theorem mem_memCells {a : Nat} {bs : List Byte} {c : Host.Cell} (h : c ∈ memCells a bs) : a ≤ c.1 ∧ c.1 < a + bs.length := by
  induction bs generalizing a with
  | nil => simp [memCells] at h
  | cons b bs ih =>
    unfold memCells at h
    have key : c ∈ memCells (a + 1) bs → a ≤ c.1 ∧ c.1 < a + (b :: bs).length := fun h => by
      have := ih h
      simp only [List.length_cons]
      omega
    split at h
    · exact key h
    · rcases List.mem_cons.mp h with rfl | h
      · simp
      · exact key h

theorem memWf_memCells (a : Nat) (bs : List Byte) : memWf (memCells a bs) = true := by
  induction bs generalizing a with
  | nil => rfl
  | cons b bs ih =>
    unfold memCells
    split
    · exact ih _
    · rename_i hb
      exact memWf_cons.mpr ⟨hb, fun x hx => Nat.lt_of_lt_of_le (Nat.lt_succ_self a) (mem_memCells hx).1, ih _⟩

/-- A write keeps the canonical form. -/
theorem memWrite_wf {m : List Host.Cell} (a : Nat) (bs : List Byte) (h : memWf m = true) : memWf (memWrite m a bs) = true := by
  unfold memWrite
  refine memWf_append (memWf_append (memWf_filter _ h) (memWf_memCells a bs) fun x hx y hy => ?_) (memWf_filter _ h)
    fun x hx y hy => ?_
  · have h1 : x.1 < a := by simpa using (List.mem_filter.mp hx).2
    exact Nat.lt_of_lt_of_le h1 (mem_memCells hy).1
  · have h2 : a + bs.length ≤ y.1 := by simpa using (List.mem_filter.mp hy).2
    rcases List.mem_append.mp hx with hx | hx
    · have h1 : x.1 < a := by simpa using (List.mem_filter.mp hx).2
      exact Nat.lt_of_lt_of_le (Nat.lt_of_lt_of_le h1 (Nat.le_add_right a _)) h2
    · exact Nat.lt_of_lt_of_le (mem_memCells hx).2 h2

/-- Data laid over pages keeps the canonical form. -/
theorem streamWrite_wf (ps : List Nat) (o : Nat) (bs : List Byte) {m : List Host.Cell} (h : memWf m = true) :
    memWf (streamWrite m ps o bs) = true := by
  induction ps generalizing m o bs with
  | nil => exact h
  | cons p ps ih => exact ih _ _ (memWrite_wf _ _ h)

/-- The byte read at an address of a run of bytes. -/
theorem lookup_memCells (a : Nat) (bs : List Byte) (x : Nat) :
    (List.lookup x (memCells a bs)).getD unwrittenByte =
      if a ≤ x ∧ x < a + bs.length then (bs[x - a]?).getD unwrittenByte else unwrittenByte := by
  induction bs generalizing a with
  | nil => simp [memCells]
  | cons b bs ih =>
    unfold memCells
    by_cases hx : x = a
    · subst hx
      by_cases hb : b = unwrittenByte
      · simp only [hb, if_true, ih]
        rw [if_neg (by omega), if_pos (by simp)]
        simp
      · simp [hb]
    · have hne : (x == a) = false := beq_eq_false_iff_ne.mpr hx
      have step : (List.lookup x (if b = unwrittenByte then memCells (a + 1) bs else (a, b) :: memCells (a + 1) bs)).getD
          unwrittenByte = (List.lookup x (memCells (a + 1) bs)).getD unwrittenByte := by
        split
        · rfl
        · rw [List.lookup_cons, hne]
      rw [step, ih]
      by_cases hlo : a + 1 ≤ x
      · have hsub : x - a = (x - (a + 1)) + 1 := by omega
        by_cases hhi : x < a + 1 + bs.length
        · rw [if_pos ⟨hlo, hhi⟩, if_pos (by simp only [List.length_cons]; omega), hsub, List.getElem?_cons_succ]
        · rw [if_neg (by omega), if_neg (by simp only [List.length_cons]; omega)]
      · rw [if_neg (by omega), if_neg (by omega)]

/-- A read after a write: the byte written inside the run, the byte there before outside it. -/
theorem memRead_memWrite (m : List Host.Cell) (a : Nat) (bs : List Byte) (x : Nat) :
    memRead (memWrite m a bs) x = if a ≤ x ∧ x < a + bs.length then (bs[x - a]?).getD unwrittenByte else memRead m x := by
  have app : ∀ u v : List Host.Cell, List.lookup x (u ++ v) = (List.lookup x u).or (List.lookup x v) := tableGet_append (k := x)
  have flt : ∀ f : Nat → Bool, List.lookup x (m.filter fun e => f e.1) = if f x then List.lookup x m else none :=
    fun f => tableGet_filter f m x
  have cells := lookup_memCells a bs x
  have outside : ¬ (a ≤ x ∧ x < a + bs.length) → List.lookup x (memCells a bs) = none := fun hn =>
    tableGet_none fun e he hk => hn (hk ▸ mem_memCells he)
  unfold memRead memWrite
  rw [app, app, flt fun n => decide (n < a), flt fun n => decide (a + bs.length ≤ n)]
  by_cases hin : a ≤ x ∧ x < a + bs.length
  · have h1 : ¬ x < a := by omega
    have h2 : ¬ a + bs.length ≤ x := by omega
    rw [if_pos hin] at cells ⊢
    simpa [h1, h2] using cells
  · rw [if_neg hin, outside hin]
    by_cases h1 : x < a
    · simp [h1, show ¬ a + bs.length ≤ x by omega]
    · simp [h1, show a + bs.length ≤ x by omega]

/-- A write leaves every other address. -/
theorem memRead_memWrite_outside {m : List Host.Cell} {a x : Nat} {bs : List Byte} (h : x < a ∨ a + bs.length ≤ x) :
    memRead (memWrite m a bs) x = memRead m x := by
  rw [memRead_memWrite, if_neg (by omega)]

/-- The memory at reset is in the canonical form. -/
theorem reset_mem_wf : memWf State.reset.pool.mem = true := rfl

end Sys2Proof.Machine
end

