-- ==== Sys2Proof/Laws/Carriage.lean ====
section
/-! SUPPORT. What carrying and printing leave alone: one relation, kept by every operation of the queues, the page pool, the
Forwarding Engine, Print Intake and Printer Delivery, so that a proof about lines, supervision, tests, stations or management
cites one lemma per operation. -/

namespace Sys2Proof.Machine

/-- A port with other queues, another current entry and other counters. -/
def Port.requeued (p : Port) (service transit : List (QEntry SyncSet)) (current : Option Current) (tx : TxCounters)
    (fwd : FwdCounters) : Port :=
  { p with service := service, transit := transit, current := current, tx := tx, fwd := fwd }

/-- From `s` to `t` nothing but queues, pages, jobs, printers, counters and notices has changed: the queue of commands, sync
entries, supervision, tester, station table, time base and groups are the same; the Management Port has at most other notices; each
port has at most other queues and counters, in their form if they were; the pool memory and the uplink keep theirs. -/
structure Carried (s t : State) : Prop where
  pending : t.pending = s.pending
  syncs : t.syncs = s.syncs
  sups : t.sups = s.sups
  tester : t.tester = s.tester
  table : t.table = s.table
  time : t.time = s.time
  groups : t.delivery.groups = s.delivery.groups
  mgmt : ∃ notices lost, t.mgmt = { s.mgmt with notices := notices, lost := lost }
  port : ∀ i, ∃ sv tr cu tx fwd, t.port i = (s.port i).requeued sv tr cu tx fwd
  queues : ∀ i, (s.port i).queuesWf = true → (t.port i).queuesWf = true
  notices : s.mgmt.notices.length ≤ noticeCapacity → t.mgmt.notices.length ≤ noticeCapacity
  uplink : s.uplink.wf = true → t.uplink.wf = true
  mem : memWf s.pool.mem = true → memWf t.pool.mem = true

theorem Carried.refl (s : State) : Carried s s where
  pending := rfl
  syncs := rfl
  sups := rfl
  tester := rfl
  table := rfl
  time := rfl
  groups := rfl
  mgmt := ⟨s.mgmt.notices, s.mgmt.lost, rfl⟩
  port := fun i => ⟨(s.port i).service, (s.port i).transit, (s.port i).current, (s.port i).tx, (s.port i).fwd, rfl⟩
  queues := fun _ h => h
  notices := id
  uplink := id
  mem := id

theorem Carried.trans {s t u : State} (h : Carried s t) (k : Carried t u) : Carried s u where
  pending := k.pending.trans h.pending
  syncs := k.syncs.trans h.syncs
  sups := k.sups.trans h.sups
  tester := k.tester.trans h.tester
  table := k.table.trans h.table
  time := k.time.trans h.time
  groups := k.groups.trans h.groups
  mgmt := by
    obtain ⟨n, l, hm⟩ := h.mgmt
    obtain ⟨n', l', km⟩ := k.mgmt
    exact ⟨n', l', by rw [km, hm]⟩
  port := fun i => by
    obtain ⟨a, b, c, d, e, hp⟩ := h.port i
    obtain ⟨a', b', c', d', e', kp⟩ := k.port i
    exact ⟨a', b', c', d', e', by rw [kp, hp]; rfl⟩
  queues := fun i hq => k.queues i (h.queues i hq)
  notices := fun hn => k.notices (h.notices hn)
  uplink := fun hu => k.uplink (h.uplink hu)
  mem := fun hm => k.mem (h.mem hm)

/-- An update of the jobs, printers, pool records, free values or events on their way is no more than carriage. -/
theorem Carried.of_plain {s t : State} (h1 : t.pending = s.pending) (h2 : t.syncs = s.syncs) (h3 : t.sups = s.sups)
    (h4 : t.tester = s.tester) (h5 : t.table = s.table) (h6 : t.time = s.time) (h7 : t.delivery.groups = s.delivery.groups)
    (h8 : t.mgmt = s.mgmt) (h9 : t.ports = s.ports) (h10 : t.uplink = s.uplink)
    (h11 : memWf s.pool.mem = true → memWf t.pool.mem = true) : Carried s t where
  pending := h1
  syncs := h2
  sups := h3
  tester := h4
  table := h5
  time := h6
  groups := h7
  mgmt := ⟨s.mgmt.notices, s.mgmt.lost, by rw [h8]⟩
  port := fun i => ⟨(s.port i).service, (s.port i).transit, (s.port i).current, (s.port i).tx, (s.port i).fwd,
    by unfold State.port; rw [h9]; rfl⟩
  queues := fun i => by unfold State.port; rw [h9]; exact id
  notices := by rw [h8]; exact id
  uplink := by rw [h10]; exact id
  mem := h11

theorem Carried.foldl {α : Type} (f : State → α → State) (h : ∀ s a, Carried s (f s a)) (l : List α) (s : State) :
    Carried s (l.foldl f s) := by
  induction l generalizing s with
  | nil => exact Carried.refl s
  | cons a l ih => exact (h s a).trans (ih _)

theorem Carried.foldlPair {α β : Type} (f : State × β → α → State × β) (h : ∀ s b a, Carried s (f (s, b) a).1) (l : List α)
    (s : State) (b : β) : Carried s (l.foldl f (s, b)).1 := by
  induction l generalizing s b with
  | nil => exact Carried.refl s
  | cons a l ih => exact (h s b a).trans (ih _ _)

/-! ## The plain updates -/

theorem State.raise_carried (s : State) (r : Raised) : Carried s (s.raise r) := .of_plain rfl rfl rfl rfl rfl rfl rfl rfl rfl rfl id
theorem State.draw_carried (s : State) : Carried s s.draw := .of_plain rfl rfl rfl rfl rfl rfl rfl rfl rfl rfl id
theorem State.setJob_carried (s : State) (j : Job) : Carried s (s.setJob j) :=
  .of_plain rfl rfl rfl rfl rfl rfl rfl rfl rfl rfl id
theorem State.dropJob_carried (s : State) (n : Half) : Carried s (s.dropJob n) :=
  .of_plain rfl rfl rfl rfl rfl rfl rfl rfl rfl rfl id
theorem State.setPrinter_carried (s : State) (p : Nat) (e : Printer) : Carried s (s.setPrinter p e) :=
  .of_plain rfl rfl rfl rfl rfl rfl rfl rfl rfl rfl id
theorem State.countIntake_carried (s : State) (f : IntakeCounters → IntakeCounters) : Carried s (s.countIntake f) :=
  .of_plain rfl rfl rfl rfl rfl rfl rfl rfl rfl rfl id
theorem State.noteLowest_carried (s : State) : Carried s s.noteLowest := .of_plain rfl rfl rfl rfl rfl rfl rfl rfl rfl rfl id
theorem State.countQuotaRefusal_carried (s : State) : Carried s s.countQuotaRefusal :=
  .of_plain rfl rfl rfl rfl rfl rfl rfl rfl rfl rfl id
theorem State.countReserveRefusal_carried (s : State) : Carried s s.countReserveRefusal :=
  .of_plain rfl rfl rfl rfl rfl rfl rfl rfl rfl rfl id
theorem State.writeJobData_carried (s : State) (ps : List Nat) (o : Nat) (bs : List Byte) : Carried s (s.writeJobData ps o bs) :=
  .of_plain rfl rfl rfl rfl rfl rfl rfl rfl rfl rfl (streamWrite_wf ps o bs)

theorem State.notify_carried (s : State) (n : Notice) : Carried s (s.notify n) where
  pending := by simp
  syncs := by simp
  sups := by simp
  tester := by simp
  table := by simp
  time := by simp
  groups := by simp
  mgmt := ⟨(s.mgmt.noted n).notices, (s.mgmt.noted n).lost, by rw [State.notify_mgmt]; exact Mgmt.noted_eq _ _⟩
  port := fun i => by rw [State.notify_port]; exact (Carried.refl s).port i
  queues := fun i h => by rwa [State.notify_port]
  notices := fun h => by
    rw [State.notify_mgmt]
    rcases Mgmt.noted_cases s.mgmt n with ⟨-, e⟩ | ⟨-, hl, e⟩ | ⟨-, -, e⟩
    · rw [e]; exact h
    · rw [e]; simpa using Nat.succ_le_of_lt hl
    · rw [e]; exact h
  uplink := fun h => by simpa using h
  mem := fun h => by simpa using h

/-! ## References (R126) -/

theorem State.addRef_carried (s : State) (f : Nat) : Carried s (s.addRef f) := by
  unfold State.addRef
  split
  · exact .of_plain rfl rfl rfl rfl rfl rfl rfl rfl rfl rfl id
  · exact .refl s

theorem State.freeIfUnreferenced_carried (s : State) (f : Nat) : Carried s (s.freeIfUnreferenced f) := by
  unfold State.freeIfUnreferenced
  split
  · split
    · exact .of_plain rfl rfl rfl rfl rfl rfl rfl rfl rfl rfl id
    · exact .refl s
  · exact .refl s

theorem State.dropRef_carried (s : State) (f : Nat) : Carried s (s.dropRef f) := by
  unfold State.dropRef
  split
  · refine Carried.trans ?_ (State.freeIfUnreferenced_carried _ f)
    exact .of_plain rfl rfl rfl rfl rfl rfl rfl rfl rfl rfl id
  · exact .refl s

theorem State.addSource_carried (s : State) (x : PayloadSource) : Carried s (s.addSource x) := by
  cases x
  · exact State.addRef_carried s _
  · exact .refl s
  · exact .refl s

theorem State.dropSource_carried (s : State) (x : PayloadSource) : Carried s (s.dropSource x) := by
  cases x
  · exact State.dropRef_carried s _
  · exact .refl s
  · exact .refl s

theorem State.dropAll_carried {δ : Type} (s : State) (es : List (QEntry δ)) : Carried s (s.dropAll es) :=
  Carried.foldl (fun (s : State) (e : QEntry δ) => s.dropSource e.source) (fun s e => State.dropSource_carried s e.source) es s

theorem State.storeFrame_carried {s t : State} {f : Frame} {n : Nat} (h : s.storeFrame f = some (n, t)) : Carried s t := by
  unfold State.storeFrame at h
  dsimp only at h
  split at h
  · cases h
  · split at h
    · cases h
    · cases h
      exact .of_plain rfl rfl rfl rfl rfl rfl rfl rfl rfl rfl (streamWrite_wf _ _ _)

/-! ## Ports -/

/-- Replacing one port by one with other queues, in their form if the old ones were. -/
theorem State.setPort_carried {s : State} {i : SegIx} {p : Port} (hp : ∃ sv tr cu tx fwd, p = (s.port i).requeued sv tr cu tx fwd)
    (hq : (s.port i).queuesWf = true → p.queuesWf = true) : Carried s (s.setPort i p) where
  pending := rfl
  syncs := rfl
  sups := rfl
  tester := rfl
  table := rfl
  time := rfl
  groups := rfl
  mgmt := (Carried.refl s).mgmt
  port := fun j => by
    rw [State.setPort_port]
    split
    · rename_i h; subst h; exact hp
    · exact (Carried.refl s).port j
  queues := fun j h => by
    rw [State.setPort_port]
    split
    · rename_i hj; subst hj; exact hq h
    · exact h
  notices := id
  uplink := id
  mem := id

/-- Taking an entry changes the current entry alone (R36). -/
theorem Port.takeEntry_eq (t : Three SyncEntry) (p : Port) : p.takeEntry t = { p with current := (p.takeEntry t).current } := by
  unfold Port.takeEntry
  split
  · rfl
  · split <;> rfl

/-- The transmitter's current entry after it looks for one: the one in hand, or the head of the service queue, or else of the
transit queue (R36). -/
theorem Port.takeEntry_current (t : Three SyncEntry) (p : Port) :
    (p.takeEntry t).current = match p.current, p.service, p.transit with
      | some c, _, _ => some c
      | none, e :: _, _ => some ⟨true, sendList t e.dest, 1, none, .deferring⟩
      | none, [], e :: _ => some ⟨false, sendList t e.dest, 1, none, .deferring⟩
      | none, [], [] => none := by
  unfold Port.takeEntry
  cases hc : p.current with
  | some c => simp [hc]
  | none => cases p.service <;> cases p.transit <;> simp [hc]

theorem Port.takeEntry_queuesWf (t : Three SyncEntry) (p : Port) (hs : p.service.length ≤ serviceCapacity)
    (ht : p.transit.length ≤ transitCapacity)
    (h : p.state = .forwarding ∨ (p.service = [] ∧ p.transit = [] ∧ p.current = none)) : (p.takeEntry t).queuesWf = true := by
  rcases h with hf | ⟨h1, h2, h3⟩
  · rw [Port.takeEntry_eq]
    simp [Port.queuesWf, hf, hs, ht]
  · have : p.takeEntry t = p := by simp [Port.takeEntry, h1, h2, h3]
    rw [this]
    simp [Port.queuesWf, h1, h2, h3]

/-- What a port makes of an offer (R34): refused outside FORWARDING, refused by a full queue, or at the tail of its queue. -/
theorem Port.offer_cases (t : Three SyncEntry) (p : Port) (sv : Bool) (e : QEntry SyncSet) :
    (p.state ≠ .forwarding ∧ p.offer t sv e = (p, .unreachable)) ∨
    (p.state = .forwarding ∧ sv = true ∧ p.service.length < serviceCapacity ∧
      p.offer t sv e = (Port.takeEntry t { p with service := p.service ++ [e] }, .taken)) ∨
    (p.state = .forwarding ∧ sv = true ∧ serviceCapacity ≤ p.service.length ∧
      p.offer t sv e = ({ p with tx := { p.tx with serviceFull := p.tx.serviceFull + 1 } }, .full)) ∨
    (p.state = .forwarding ∧ sv = false ∧ p.transit.length < transitCapacity ∧
      p.offer t sv e = (Port.takeEntry t { p with transit := p.transit ++ [e] }, .taken)) ∨
    (p.state = .forwarding ∧ sv = false ∧ transitCapacity ≤ p.transit.length ∧ p.offer t sv e = (p, .full)) := by
  unfold Port.offer
  by_cases h : p.state = .forwarding
  · cases sv
    · by_cases hl : p.transit.length < transitCapacity
      · simp [h, hl]
      · simp [h, hl, Nat.le_of_not_lt hl]
    · by_cases hl : p.service.length < serviceCapacity
      · simp [h, hl]
      · simp [h, hl, Nat.le_of_not_lt hl]
  · simp [h]

theorem Port.offer_requeued (t : Three SyncEntry) (p : Port) (sv : Bool) (e : QEntry SyncSet) :
    ∃ a b c d f, (p.offer t sv e).1 = p.requeued a b c d f := by
  rcases Port.offer_cases t p sv e with ⟨-, h⟩ | ⟨-, -, -, h⟩ | ⟨-, -, -, h⟩ | ⟨-, -, -, h⟩ | ⟨-, -, -, h⟩ <;> rw [h]
  · exact ⟨_, _, _, _, _, rfl⟩
  · rw [Port.takeEntry_eq]; exact ⟨_, _, _, _, _, rfl⟩
  · exact ⟨_, _, _, _, _, rfl⟩
  · rw [Port.takeEntry_eq]; exact ⟨_, _, _, _, _, rfl⟩
  · exact ⟨_, _, _, _, _, rfl⟩

theorem Port.offer_queuesWf (t : Three SyncEntry) (p : Port) (sv : Bool) (e : QEntry SyncSet) (hq : p.queuesWf = true) :
    (p.offer t sv e).1.queuesWf = true := by
  have hq' := hq
  simp only [Port.queuesWf, Bool.and_eq_true, decide_eq_true_eq] at hq'
  obtain ⟨⟨-, hs⟩, ht⟩ := hq'
  rcases Port.offer_cases t p sv e with ⟨-, h⟩ | ⟨hf, -, hl, h⟩ | ⟨-, -, -, h⟩ | ⟨hf, -, hl, h⟩ | ⟨-, -, -, h⟩ <;> rw [h]
  · exact hq
  · exact Port.takeEntry_queuesWf t _ (by simpa using Nat.succ_le_of_lt hl) ht (.inl hf)
  · exact hq
  · exact Port.takeEntry_queuesWf t _ hs (by simpa using Nat.succ_le_of_lt hl) (.inl hf)
  · exact hq

theorem State.offerSegment_carried (s : State) (i : SegIx) (sv : Bool) (e : QEntry SyncSet) :
    Carried s (s.offerSegment i sv e).1 := by
  have h : Carried s (s.setPort i ((s.port i).offer s.syncs sv e).1) :=
    State.setPort_carried (Port.offer_requeued _ _ _ _) (Port.offer_queuesWf _ _ _ _)
  unfold State.offerSegment
  dsimp only
  split
  · exact h.trans (State.addSource_carried _ _)
  · exact h

/-- What the uplink makes of an offer (R118). -/
theorem Uplink.offer_cases (u : Uplink) (sv : Bool) (e : QEntry Mac) :
    (u.up = false ∧ u.offer sv e = (u, .unreachable)) ∨
    (u.up = true ∧ sv = true ∧ u.service.length < serviceCapacity ∧ u.offer sv e = ({ u with service := u.service ++ [e] }, .taken)) ∨
    (u.up = true ∧ sv = true ∧ serviceCapacity ≤ u.service.length ∧
      u.offer sv e = ({ u with counters := { u.counters with serviceFull := u.counters.serviceFull + 1 } }, .full)) ∨
    (u.up = true ∧ sv = false ∧ u.transit.length < transitCapacity ∧
      u.offer sv e = ({ u with transit := u.transit ++ [e] }, .taken)) ∨
    (u.up = true ∧ sv = false ∧ transitCapacity ≤ u.transit.length ∧ u.offer sv e = (u, .full)) := by
  unfold Uplink.offer
  cases h : u.up
  · simp
  · cases sv
    · by_cases hl : u.transit.length < transitCapacity
      · simp [hl]
      · simp [hl, Nat.le_of_not_lt hl]
    · by_cases hl : u.service.length < serviceCapacity
      · simp [hl]
      · simp [hl, Nat.le_of_not_lt hl]

theorem Uplink.offer_wf (u : Uplink) (sv : Bool) (e : QEntry Mac) (hu : u.wf = true) : (u.offer sv e).1.wf = true := by
  have hu' := hu
  simp only [Uplink.wf, Bool.and_eq_true, decide_eq_true_eq] at hu'
  obtain ⟨⟨-, hs⟩, ht⟩ := hu'
  rcases Uplink.offer_cases u sv e with ⟨-, h⟩ | ⟨hf, -, hl, h⟩ | ⟨-, -, -, h⟩ | ⟨hf, -, hl, h⟩ | ⟨-, -, -, h⟩ <;> rw [h]
  · exact hu
  · simp only [Uplink.wf, hf, Bool.true_or, Bool.true_and, Bool.and_eq_true, decide_eq_true_eq]
    exact ⟨by simpa using Nat.succ_le_of_lt hl, ht⟩
  · exact hu
  · simp only [Uplink.wf, hf, Bool.true_or, Bool.true_and, Bool.and_eq_true, decide_eq_true_eq]
    exact ⟨hs, by simpa using Nat.succ_le_of_lt hl⟩
  · exact hu

/-- Replacing the uplink by one in its form if the old one was. -/
theorem State.setUplink_carried {s : State} {u : Uplink} (h : s.uplink.wf = true → u.wf = true) :
    Carried s { s with uplink := u } where
  pending := rfl
  syncs := rfl
  sups := rfl
  tester := rfl
  table := rfl
  time := rfl
  groups := rfl
  mgmt := (Carried.refl s).mgmt
  port := (Carried.refl s).port
  queues := fun _ => id
  notices := id
  uplink := h
  mem := id

theorem State.offerUplink_carried (s : State) (sv : Bool) (e : QEntry Mac) : Carried s (s.offerUplink sv e).1 := by
  have h : Carried s { s with uplink := (s.uplink.offer sv e).1 } := State.setUplink_carried (Uplink.offer_wf _ _ _)
  unfold State.offerUplink
  dsimp only
  split
  · exact h.trans (State.addSource_carried _ _)
  · exact h

theorem State.offerService_carried (s : State) (r : Route) (x : PayloadSource) (h : Header) :
    Carried s (s.offerService r x h).1 := by
  cases r
  · exact State.offerSegment_carried s _ _ _
  · exact State.offerUplink_carried s _ _

theorem State.countFwd_carried (s : State) (o : Origin) (f : FwdCounters → FwdCounters) : Carried s (s.countFwd o f) := by
  cases o
  · exact State.setPort_carried ⟨_, _, _, _, _, rfl⟩ id
  · exact State.setUplink_carried id

theorem State.countUplink_carried (s : State) (f : UplinkCounters → UplinkCounters) : Carried s (s.countUplink f) :=
  State.setUplink_carried id

/-! ## Withdrawal (R159) -/

theorem Port.withdraw_requeued (t : Three SyncEntry) (page : Nat) (p : Port) :
    ∃ a b c d f, p.withdraw t page = p.requeued a b c d f := by
  unfold Port.withdraw
  dsimp only
  split
  · exact ⟨_, _, _, _, _, rfl⟩
  · rw [Port.takeEntry_eq]; exact ⟨_, _, _, _, _, rfl⟩

theorem Port.withdraw_queuesWf (t : Three SyncEntry) (page : Nat) (p : Port) (hq : p.queuesWf = true) :
    (p.withdraw t page).queuesWf = true := by
  have hq' := hq
  simp only [Port.queuesWf, Bool.and_eq_true, Bool.or_eq_true, decide_eq_true_eq, List.isEmpty_iff, Option.isNone_iff_eq_none]
    at hq'
  obtain ⟨⟨hc, hs⟩, ht⟩ := hq'
  unfold Port.withdraw
  dsimp only
  split
  · exact hq
  · refine Port.takeEntry_queuesWf t _ (Nat.le_trans (List.length_filter_le _ _) hs) ht ?_
    rcases hc with hc | ⟨⟨h1, h2⟩, h3⟩
    · exact .inl hc
    · exact .inr ⟨by simp [h1], h2, by simp [h3]⟩

theorem Uplink.withdraw_wf (page : Nat) (u : Uplink) (hu : u.wf = true) : (u.withdraw page).wf = true := by
  have hu' := hu
  simp only [Uplink.wf, Bool.and_eq_true, Bool.or_eq_true, decide_eq_true_eq, List.isEmpty_iff, Option.isNone_iff_eq_none] at hu'
  obtain ⟨⟨hc, hs⟩, ht⟩ := hu'
  unfold Uplink.withdraw
  dsimp only
  split
  · exact hu
  · simp only [Uplink.wf, Bool.and_eq_true, Bool.or_eq_true, decide_eq_true_eq, List.isEmpty_iff, Option.isNone_iff_eq_none]
    refine ⟨⟨?_, Nat.le_trans (List.length_filter_le _ _) hs⟩, ht⟩
    rcases hc with hc | ⟨⟨h1, h2⟩, h3⟩
    · exact .inl hc
    · exact .inr ⟨⟨by simp [h1], h2⟩, by simp [h3]⟩

theorem State.withdrawPage_carried (s : State) (page : Nat) : Carried s (s.withdrawPage page) where
  pending := rfl
  syncs := rfl
  sups := rfl
  tester := rfl
  table := rfl
  time := rfl
  groups := rfl
  mgmt := (Carried.refl s).mgmt
  port := fun i => by
    rw [show (s.withdrawPage page).port i = (s.port i).withdraw s.syncs page from Four.get_map _ _ _]
    exact Port.withdraw_requeued _ _ _
  queues := fun i h => by
    rw [show (s.withdrawPage page).port i = (s.port i).withdraw s.syncs page from Four.get_map _ _ _]
    exact Port.withdraw_queuesWf _ _ _ h
  notices := id
  uplink := Uplink.withdraw_wf page _
  mem := id

end Sys2Proof.Machine
end

