-- ==== Sys2Proof/Laws/Printing.lean ====
section
/-! SUPPORT. Every operation of Printer Delivery, Print Intake and the Forwarding Engine is carriage: it leaves lines, supervision,
tests, stations and management as Carried says. -/

namespace Sys2Proof.Machine

/-! ## Printer Delivery (chapter 9) -/

theorem State.offerToPrinter_carried (s : State) (n : Byte) (x : PayloadSource) (h : Header) :
    Carried s (s.offerToPrinter n x h) := by
  unfold State.offerToPrinter
  split
  · exact State.offerService_carried s _ _ _
  · exact .refl s

theorem State.sendAbort_carried (s : State) (n : Byte) : Carried s (s.sendAbort n) := State.offerToPrinter_carried s _ _ _

theorem State.offerFlight_carried (s : State) (n : Byte) (f : Flight) : Carried s (s.offerFlight n f) :=
  State.offerToPrinter_carried s _ _ _

theorem State.sendNext_carried (s : State) (p : Nat) : Carried s (s.sendNext p) := by
  unfold State.sendNext
  split
  · exact .refl s
  · split
    · split
      · split
        · exact ((State.offerFlight_carried _ _ _).trans (State.setPrinter_carried _ _ _)).trans (State.setJob_carried _ _)
        · exact .refl s
      · exact .refl s
    · exact .refl s

theorem State.startHead_carried (s : State) (p : Nat) : Carried s (s.startHead p) := by
  unfold State.startHead
  split
  · exact .refl s
  · split
    · split
      · exact (State.setJob_carried _ _).trans (State.sendNext_carried _ _)
      · exact (State.setJob_carried _ _).trans (State.sendNext_carried _ _)
      · exact .refl s
    · exact .refl s

theorem State.releaseChain_carried (s : State) (j : Job) : Carried s (s.releaseChain j) :=
  (State.setJob_carried s _).trans (Carried.foldl State.withdrawPage State.withdrawPage_carried _ _)

theorem State.finishJob_carried (s : State) (j : Job) (o : JobOutcome) : Carried s (s.finishJob j o) := by
  unfold State.finishJob
  dsimp only
  refine ((State.releaseChain_carried s j).trans ?_).trans (State.dropJob_carried _ _)
  refine Carried.trans ?_ (State.notify_carried _ _)
  split
  · split
    · exact State.setPrinter_carried _ _ _
    · exact .refl _
  · exact .refl _

theorem State.enterEnding_carried (s : State) (j : Job) : Carried s (s.enterEnding j) := by
  unfold State.enterEnding
  extract_lets s1
  have h : Carried s s1 := State.setJob_carried s _
  split
  · split
    · exact h.trans (State.setPrinter_carried _ _ _)
    · exact h
  · exact h

theorem State.noteState_carried (s : State) (p : Nat) : Carried s (s.noteState p) := by
  unfold State.noteState
  split
  · exact .refl s
  · extract_lets st reason
    split
    · exact .refl s
    · exact (State.setPrinter_carried _ _ _).trans (State.notify_carried _ _)

theorem State.returnJob_carried (s : State) (j : Job) : Carried s (s.returnJob j) := by
  unfold State.returnJob
  extract_lets s1
  have h : Carried s s1 := State.setJob_carried s _
  split
  · split
    · extract_lets s2
      have h2 : Carried s s2 := h.trans (State.setPrinter_carried _ _ _)
      split
      · split
        · exact h2.trans (State.withdrawPage_carried _ _)
        · exact h2
      · exact h2
    · exact h
  · exact h

theorem State.abortIfOffered_carried (s : State) (e : Printer) (j : Job) : Carried s (s.abortIfOffered e j) := by
  unfold State.abortIfOffered
  split
  · exact State.sendAbort_carried s _
  · exact .refl s

theorem State.losePrinter_carried (s : State) (p : Nat) : Carried s (s.losePrinter p).1 := by
  unfold State.losePrinter
  split
  · exact .refl s
  · dsimp only
    refine Carried.trans ?_ (Carried.foldl _ (fun s j => (State.abortIfOffered_carried s _ j).trans (State.returnJob_carried _ j)) _ _)
    split
    · split
      · exact State.finishJob_carried s _ _
      · split
        · exact State.setJob_carried s _
        · exact .refl s
    · exact .refl s

theorem State.takeFinding_carried (s : State) (p : Nat) : Carried s (s.takeFinding p).1 := by
  unfold State.takeFinding
  split
  · exact .refl s
  · extract_lets lost s1
    have h1 : Carried s s1 := State.noteState_carried s p
    split
    rename_i s2 freed heq
    have h2 : Carried s s2 := by
      split at heq
      · have := State.losePrinter_carried s1 p
        rw [heq] at this
        exact h1.trans this
      · cases heq; exact h1
    exact h2.trans (State.noteState_carried _ p)

theorem State.startIfReady_carried (s : State) (p : Nat) : Carried s (s.startIfReady p) := by
  unfold State.startIfReady
  split
  · split
    · exact State.startHead_carried s p
    · exact .refl s
  · exact .refl s

theorem State.evaluate_carried (s : State) (p : Nat) : Carried s (s.evaluate p).1 :=
  (State.startIfReady_carried s p).trans (State.takeFinding_carried _ p)

theorem State.bind_carried (s : State) (j : Job) (p : Nat) : Carried s (s.bind j p) := by
  unfold State.bind
  split
  · exact (State.setPrinter_carried _ _ _).trans (State.setJob_carried _ _)
  · exact .refl s

theorem State.tryGroup_carried (n : Nat) (s : State) (g : Nat) : Carried s (State.tryGroup n s g).1 := by
  induction n generalizing s with
  | zero => exact .refl s
  | succ n ih =>
    unfold State.tryGroup
    split
    · exact .refl s
    · split
      · exact ((State.bind_carried s _ _).trans (State.evaluate_carried _ _)).trans (ih _)
      · exact .refl s

theorem State.tryGroups_carried (s : State) (gs : List Nat) : Carried s (s.tryGroups gs).1 :=
  Carried.foldlPair _ (fun s _ g => State.tryGroup_carried _ s g) _ s []

theorem State.bindRounds_carried (n : Nat) (s : State) (gs : List Nat) : Carried s (State.bindRounds n s gs) := by
  induction n generalizing s gs with
  | zero => exact .refl s
  | succ n ih =>
    cases gs with
    | nil => exact .refl s
    | cons g gs => exact (State.tryGroups_carried s (g :: gs)).trans (ih _ _)

theorem State.bindIn_carried (s : State) (gs : List Nat) : Carried s (s.bindIn gs) := State.bindRounds_carried _ s gs

theorem State.touch_carried (s : State) (p : Nat) (gs : List Nat) : Carried s (s.touch p gs) :=
  (State.evaluate_carried s p).trans (State.bindIn_carried _ _)

theorem State.finishHere_carried (s : State) (p : Nat) (e : Printer) (j : Job) (o : JobOutcome) :
    Carried s (s.finishHere p e j o) := (State.finishJob_carried s j o).trans (State.touch_carried _ p _)

theorem State.holdHead_carried (s : State) (e : Printer) : Carried s (s.holdHead e) := by
  unfold State.holdHead
  split
  · split
    · exact State.setJob_carried s _
    · exact .refl s
  · exact .refl s

theorem State.acceptBlock_carried (s : State) (p : Nat) (e : Printer) (f : Flight) (j : Job) :
    Carried s (s.acceptBlock p e f j) := by
  unfold State.acceptBlock
  extract_lets chain j1 e1 s1 s2
  have h1 : Carried s s1 := (State.setJob_carried s j1).trans (State.setPrinter_carried _ p e1)
  have h2 : Carried s s2 := by
    dsimp only [s2]
    split
    · exact h1.trans (State.withdrawPage_carried _ _)
    · exact h1
  split
  · split
    · exact h2.trans (State.finishHere_carried _ _ _ _ _)
    · exact (h2.trans (State.enterEnding_carried _ _)).trans (State.touch_carried _ _ _)
  · split
    · exact (h2.trans (State.sendNext_carried _ _)).trans (State.touch_carried _ _ _)
    · exact h2.trans (State.touch_carried _ _ _)

theorem State.blockExpired_carried (s : State) (p : Nat) (e : Printer) (f : Flight) (j : Job) :
    Carried s (s.blockExpired p e f j) := by
  unfold State.blockExpired
  split
  · split
    · exact ((State.offerFlight_carried s _ _).trans (State.setPrinter_carried _ _ _)).trans (State.touch_carried _ _ _)
    · exact ((State.setPrinter_carried s _ _).trans (State.setJob_carried _ _)).trans (State.touch_carried _ _ _)
  · exact (State.setPrinter_carried s _ _).trans (State.touch_carried _ _ _)

theorem State.blockAck_carried (s : State) (n c : Byte) : Carried s (s.blockAck n c) := by
  unfold State.blockAck
  split
  · exact .refl s
  · split
    · split
      · split
        · exact State.acceptBlock_carried s _ _ _ _
        · split
          · exact (State.setPrinter_carried s _ _).trans (State.touch_carried _ _ _)
          · split
            · exact State.blockExpired_carried s _ _ _ _
            · exact .refl s
      · exact .refl s
    · exact .refl s

theorem State.printerStatus_carried (s : State) (n c : Byte) : Carried s (s.printerStatus n c) := by
  unfold State.printerStatus
  split
  · exact .refl s
  · split
    · exact (State.setPrinter_carried s _ _).trans (State.touch_carried _ _ _)
    · split
      · exact ((State.setPrinter_carried s _ _).trans (State.holdHead_carried _ _)).trans (State.touch_carried _ _ _)
      · split
        · exact ((State.setPrinter_carried s _ _).trans (State.holdHead_carried _ _)).trans (State.touch_carried _ _ _)
        · split
          · split
            · split
              · exact State.finishHere_carried s _ _ _ _
              · exact (State.setPrinter_carried s _ _).trans (State.touch_carried _ _ _)
            · exact (State.setPrinter_carried s _ _).trans (State.touch_carried _ _ _)
          · exact .refl s

/-! ## Print Intake (chapter 8) -/

theorem State.answerBlock_carried (s : State) (b : PrintBlock) (k : BitVec 2) : Carried s (s.answerBlock b k) := by
  unfold State.answerBlock
  dsimp only
  split
  · exact State.offerService_carried s _ _ _
  · exact (State.offerService_carried s _ _ _).trans (State.countIntake_carried _ _)

theorem State.retryBlock_carried (s : State) (b : PrintBlock) : Carried s (s.retryBlock b) :=
  (State.countIntake_carried s _).trans (State.answerBlock_carried _ b _)

theorem State.refuseBlock_carried (s : State) (b : PrintBlock) : Carried s (s.refuseBlock b) :=
  (State.countIntake_carried s _).trans (State.answerBlock_carried _ b _)

theorem State.leavePrinter_carried (s : State) (j : Job) : Carried s (s.leavePrinter j) := by
  unfold State.leavePrinter
  split
  · exact ((State.takeFinding_carried s _).trans (State.bindIn_carried _ _)).trans (State.raise_carried _ _)
  · exact .refl s

theorem State.touchPrinter_carried (s : State) (j : Job) : Carried s (s.touchPrinter j) := by
  unfold State.touchPrinter
  split
  · exact State.touch_carried s _ _
  · exact .refl s

theorem State.stopAtPrinter_carried (s : State) (j : Job) (c : EndCause) : Carried s (s.stopAtPrinter j c) := by
  unfold State.stopAtPrinter
  extract_lets s1 j1 s2
  have h : Carried s s2 := (State.releaseChain_carried s j).trans (State.enterEnding_carried _ _)
  split
  · exact h.trans (State.sendAbort_carried _ _)
  · exact h

theorem State.endJob_carried (s : State) (j : Job) (c : EndCause) : Carried s (s.endJob j c) := by
  unfold State.endJob
  dsimp only
  refine (State.setJob_carried s { j with isOpen := false, idleTimer := .stopped }).trans ?_
  split
  · exact State.finishJob_carried _ _ _
  · exact (State.finishJob_carried _ _ _).trans (State.leavePrinter_carried _ _)
  · exact (State.stopAtPrinter_carried _ _ _).trans (State.touchPrinter_carried _ _)
  · split
    · exact (State.stopAtPrinter_carried _ _ _).trans (State.touchPrinter_carried _ _)
    · exact (State.finishJob_carried _ _ _).trans (State.leavePrinter_carried _ _)
  · exact State.setJob_carried _ _

theorem State.tellClosed_carried (s : State) (j : Job) (b : Bool) : Carried s (s.tellClosed j b) := by
  unfold State.tellClosed
  split
  · exact State.raise_carried s _
  · exact .refl s

theorem State.fillJob_carried (s : State) (b : PrintBlock) (ps : List Nat) : Carried s (s.fillJob b ps) := by
  unfold State.fillJob
  dsimp only
  refine Carried.trans ?_ (State.answerBlock_carried _ b _)
  refine Carried.trans ?_ (State.countIntake_carried _ _)
  refine Carried.trans ?_ (State.tellClosed_carried _ _ _)
  refine Carried.trans ?_ (State.raise_carried _ _)
  refine Carried.trans ?_ (State.noteLowest_carried _)
  exact .of_plain rfl rfl rfl rfl rfl rfl rfl rfl rfl rfl (streamWrite_wf _ _ _)

theorem State.openJob_carried (s : State) (b : PrintBlock) : Carried s (s.openJob b) := by
  unfold State.openJob
  extract_lets s1
  have h : Carried s s1 := by
    dsimp only [s1]
    split
    · exact State.endJob_carried s _ _
    · exact .refl s
  split
  · exact h.trans (State.retryBlock_carried _ b)
  · split
    · exact (h.trans (State.countQuotaRefusal_carried _)).trans (State.retryBlock_carried _ b)
    · exact (h.trans (State.countReserveRefusal_carried _)).trans (State.retryBlock_carried _ b)
    · exact h.trans (State.fillJob_carried _ b _)

theorem State.growJob_carried (s : State) (b : PrintBlock) (j : Job) (ps : List Nat) : Carried s (s.growJob b j ps) := by
  unfold State.growJob
  dsimp only
  refine Carried.trans ?_ (State.answerBlock_carried _ b _)
  refine Carried.trans ?_ (State.countIntake_carried _ _)
  refine Carried.trans ?_ (State.tellClosed_carried _ _ _)
  refine Carried.trans ?_ (State.raise_carried _ _)
  refine Carried.trans ?_ (State.noteLowest_carried _)
  exact (State.writeJobData_carried s _ _ _).trans (State.setJob_carried _ _)

theorem State.appendBlock_carried (s : State) (b : PrintBlock) (j : Job) : Carried s (s.appendBlock b j) := by
  unfold State.appendBlock
  split
  · exact State.refuseBlock_carried s b
  · split
    · exact (State.countQuotaRefusal_carried _).trans (State.retryBlock_carried _ b)
    · exact (State.countReserveRefusal_carried _).trans (State.retryBlock_carried _ b)
    · exact State.growJob_carried _ b _ _

theorem State.takeBlock_carried (s : State) (b : PrintBlock) : Carried s (s.takeBlock b) := by
  unfold State.takeBlock
  extract_lets resend
  split
  · exact (State.countIntake_carried s _).trans (State.answerBlock_carried _ b _)
  · split
    · exact State.openJob_carried s b
    · split
      · exact State.refuseBlock_carried s b
      · split
        · exact State.appendBlock_carried s b _
        · exact State.countIntake_carried s _

/-! ## The Forwarding Engine (chapter 6) -/

theorem State.offerCopy_carried (o : Origin) (n : Nat) (h : Header) (s : State) (d : Route) :
    Carried s (State.offerCopy o n h s d) := by
  cases d with
  | segment i set =>
    have k := State.offerSegment_carried s i false ⟨.stored n, h, set⟩
    unfold State.offerCopy
    dsimp only
    split <;> rename_i heq <;> rw [heq] at k
    · exact k
    · exact k.trans (State.countFwd_carried _ _ _)
    · exact k.trans (State.countFwd_carried _ _ _)
  | uplink mac =>
    have k := State.offerUplink_carried s false ⟨.stored n, h, mac⟩
    unfold State.offerCopy
    dsimp only
    split <;> rename_i heq <;> rw [heq] at k
    · exact k
    · exact k.trans (State.countFwd_carried _ _ _)
    · exact k.trans (State.countFwd_carried _ _ _)

theorem State.sendOn_carried (s : State) (o : Origin) (f : Frame) (ds : List Route) : Carried s (s.sendOn o f ds) := by
  unfold State.sendOn
  split
  · exact State.countFwd_carried s _ _
  · rename_i heq
    exact ((State.storeFrame_carried heq).trans (Carried.foldl _ (fun s d => State.offerCopy_carried o _ _ s d) ds _)).trans
      (State.freeIfUnreferenced_carried _ _)

theorem State.sendOrFilter_carried (s : State) (o : Origin) (f : Frame) (ds : List Route) : Carried s (s.sendOrFilter o f ds) := by
  unfold State.sendOrFilter
  split
  · exact State.countFwd_carried s _ _
  · exact State.sendOn_carried s _ _ _

theorem State.forwardStation_carried (s : State) (a : Arrival) (n : Byte) : Carried s (s.forwardStation a n) := by
  unfold State.forwardStation
  dsimp only
  have one : ∀ x : Side, Carried s
      (if a.origin = .segment x.segment then s.countFwd a.origin FwdCounters.addFiltered
        else if s.forwards x.segment then s.sendOn a.origin a.frame [.segment x.segment (syncOne x.sync)]
        else s.countFwd a.origin FwdCounters.addUnreachable) := fun x => by
    split
    · exact State.countFwd_carried s _ _
    · split
      · exact State.sendOn_carried s _ _ _
      · exact State.countFwd_carried s _ _
  split
  · exact State.sendOrFilter_carried s _ _ _
  · exact one _
  · exact one _
  · split
    · split
      · exact State.countFwd_carried s _ _
      · exact State.countFwd_carried s _ _
    · exact State.sendOn_carried s _ _ _

theorem State.countAnswer_carried (o : Origin) (x : State × OfferResult) : Carried x.1 (State.countAnswer o x) := by
  unfold State.countAnswer
  split
  · exact State.countFwd_carried _ _ _
  · exact .refl _

theorem State.echo_carried (s : State) (a : Arrival) : Carried s (s.echo a) := by
  unfold State.echo
  dsimp only
  split
  · exact State.countFwd_carried s _ _
  · rename_i heq
    exact (((State.storeFrame_carried heq).trans (State.offerService_carried _ _ _ _)).trans
      (State.countAnswer_carried a.origin _)).trans (State.freeIfUnreferenced_carried _ _)

theorem State.directPrint_carried (s : State) (a : Arrival) : Carried s (s.directPrint a) := by
  unfold State.directPrint
  dsimp only
  split
  · exact ((State.countFwd_carried s _ _).trans (State.offerService_carried _ _ _ _)).trans (State.countAnswer_carried a.origin _)
  · exact State.countFwd_carried s _ _

theorem State.forGateway_carried (s : State) (a : Arrival) : Carried s (s.forGateway a) := by
  unfold State.forGateway
  dsimp only
  split
  · exact State.blockAck_carried s _ _
  · split
    · exact State.printerStatus_carried s _ _
    · split
      · exact State.echo_carried s a
      · exact State.countFwd_carried s _ _

theorem State.forService_carried (s : State) (a : Arrival) (g : Nat) : Carried s (s.forService a g) := by
  unfold State.forService
  dsimp only
  split
  · exact State.takeBlock_carried s _
  · split
    · exact State.echo_carried s a
    · exact State.countFwd_carried s _ _

theorem State.forAlias_carried (s : State) (a : Arrival) (m : Mac) : Carried s (s.forAlias a m) := by
  unfold State.forAlias
  split
  · split
    · exact State.echo_carried s a
    · exact State.countFwd_carried s _ _
  · split
    · exact State.countFwd_carried s _ _
    · split
      · exact State.echo_carried s a
      · exact State.sendOn_carried s _ _ _

/-- The Forwarding Engine's decision is carriage (R106). -/
theorem State.forward_carried (s : State) (a : Arrival) : Carried s (s.forward a) := by
  unfold State.forward
  dsimp only
  split
  · exact State.countFwd_carried s _ _
  · split
    · exact State.sendOrFilter_carried s _ _ _
    · split
      · exact State.forGateway_carried s a
      · split
        · exact State.forService_carried s a _
        · split
          · exact State.directPrint_carried s a
          · split
            · exact State.forAlias_carried s a _
            · exact State.forwardStation_carried s a _

theorem State.tunnelReceived_carried (s : State) (bs : List Byte) : Carried s (s.tunnelReceived bs) := by
  unfold State.tunnelReceived
  split
  · exact .refl s
  · exact State.countUplink_carried s _
  · exact State.countUplink_carried s _
  · exact State.countUplink_carried s _
  · unfold State.checkSender
    split
    · exact State.countUplink_carried s _
    · exact (State.countUplink_carried s _).trans (State.forward_carried _ _)

/-! ## The events of Printer Delivery -/

theorem State.idleExpiry_carried (s : State) (n : Half) : Carried s (s.idleExpiry n) := by
  unfold State.idleExpiry
  split
  · split
    · exact State.endJob_carried s _ _
    · exact .refl s
  · exact .refl s

theorem State.takeJobChange_carried (c : Half × Option Nat) (s : State) : Carried s (State.takeJobChange c s) := by
  unfold State.takeJobChange
  split
  · refine Carried.trans ?_ (State.touch_carried _ _ _)
    unfold State.sendIfHead
    split
    · split
      · exact State.sendNext_carried s _
      · exact .refl s
    · exact .refl s
  · exact State.bindIn_carried s _

theorem State.evaluateAll_carried (s : State) (ps gs : List Nat) : Carried s (s.evaluateAll ps gs) := by
  unfold State.evaluateAll
  exact (Carried.foldlPair _ (fun s _ p => State.evaluate_carried s p) ps s gs).trans (State.bindIn_carried _ _)

theorem State.takeEvaluation_carried (c : EvaluationCall) (s : State) : Carried s (State.takeEvaluation c s) :=
  State.evaluateAll_carried s _ _

theorem State.blockTimerExpiry_carried (s : State) (p : Nat) : Carried s (s.blockTimerExpiry p) := by
  unfold State.blockTimerExpiry
  split
  · split
    · split
      · exact State.blockExpired_carried s _ _ _ _
      · exact .refl s
    · exact .refl s
  · exact .refl s

theorem State.retryTimerExpiry_carried (s : State) (p : Nat) : Carried s (s.retryTimerExpiry p) := by
  unfold State.retryTimerExpiry
  split
  · split
    · split
      · unfold State.retryExpired
        split
        · exact ((State.offerFlight_carried s _ _).trans (State.setPrinter_carried _ _ _)).trans (State.touch_carried _ _ _)
        · exact (State.setPrinter_carried s _ _).trans (State.touch_carried _ _ _)
      · exact .refl s
    · exact .refl s
  · exact .refl s

theorem State.endTimerExpiry_carried (s : State) (p : Nat) : Carried s (s.endTimerExpiry p) := by
  unfold State.endTimerExpiry
  split
  · split
    · split
      · exact (State.setPrinter_carried s _ _).trans (State.finishHere_carried _ _ _ _ _)
      · exact .refl s
    · exact .refl s
  · exact .refl s

end Sys2Proof.Machine
end

