-- ==== Sys2Proof/Laws/Lines.lean ====
section
/-! SUPPORT. The laws of lines and of requests: flushes and completions, the change of segment state, what the supervision and
tester operations touch, and the judging of a request that is taken. -/

namespace Sys2Proof.Machine

/-! ## References touch the pool alone (R126) -/

theorem State.addRef_eq (s : State) (f : Nat) : s.addRef f = { s with pool := (s.addRef f).pool } := by
  unfold State.addRef
  split <;> rfl

theorem State.freeIfUnreferenced_eq (s : State) (f : Nat) :
    s.freeIfUnreferenced f = { s with pool := (s.freeIfUnreferenced f).pool } := by
  unfold State.freeIfUnreferenced
  split
  · split <;> rfl
  · rfl

theorem State.dropRef_eq (s : State) (f : Nat) : s.dropRef f = { s with pool := (s.dropRef f).pool } := by
  unfold State.dropRef
  split
  · rw [State.freeIfUnreferenced_eq]
  · rfl

theorem State.dropSource_eq (s : State) (x : PayloadSource) : s.dropSource x = { s with pool := (s.dropSource x).pool } := by
  cases x
  · exact State.dropRef_eq s _
  · rfl
  · rfl

theorem State.addSource_eq (s : State) (x : PayloadSource) : s.addSource x = { s with pool := (s.addSource x).pool } := by
  cases x
  · exact State.addRef_eq s _
  · rfl
  · rfl

theorem State.dropAll_eq {δ : Type} (s : State) (es : List (QEntry δ)) : s.dropAll es = { s with pool := (s.dropAll es).pool } := by
  unfold State.dropAll
  induction es generalizing s with
  | nil => rfl
  | cons e es ih =>
    rw [List.foldl_cons, ih, State.dropSource_eq]

/-! ## A failed attempt (R38) -/

/-- The jam touches one port's jam and nothing else. -/
theorem State.driveJam_eq (s : State) (i : SegIx) :
    s.driveJam i = { s with ports := s.ports.set i { s.port i with jam := some (Config.jamDraw s.draws) } } := rfl

/-- A failed attempt below the twelfth: the jam, the backoff chosen, one draw, and nothing else. -/
theorem State.attemptFailed_backoff (s : State) (i : SegIx) (c : Current) (h : c.attempt < maxTransmitAttempts) :
    s.attemptFailed i c = { s with
      draws := s.draws + 1
      ports := s.ports.set i { s.port i with
        current := some { c with phase := .backoff (s.backoffSlots c.attempt) }
        jam := some (Config.jamDraw s.draws) } } := by
  simp [State.attemptFailed, h, State.driveJam, State.setPort, State.port, State.draw, State.backoffSlots]

/-! ## Flush and completion (R35, R39, R117, R118) -/

/-- A segment's flush: both queues and the current entry gone, the flushed counter up by the entries, references dropped (R35). -/
theorem State.flushSegment_eq (s : State) (i : SegIx) :
    s.flushSegment i = { s with
      ports := s.ports.set i { s.port i with
        service := []
        transit := []
        current := none
        tx := { (s.port i).tx with
          flushed := (s.port i).tx.flushed + BitVec.ofNat 32 ((s.port i).service.length + (s.port i).transit.length) } }
      pool := (s.flushSegment i).pool } := by
  unfold State.flushSegment
  rw [State.dropAll_eq]
  simp [State.setPort, List.length_append]

theorem State.flushSegment_port (s : State) (i j : SegIx) :
    (s.flushSegment i).port j = if j = i then { s.port i with
        service := []
        transit := []
        current := none
        tx := { (s.port i).tx with
          flushed := (s.port i).tx.flushed + BitVec.ofNat 32 ((s.port i).service.length + (s.port i).transit.length) } }
      else s.port j := by
  rw [State.flushSegment_eq]
  exact Four.get_set _ _ _ _

theorem State.flushSegment_carried (s : State) (i : SegIx) : Carried s (s.flushSegment i) := by
  unfold State.flushSegment
  refine Carried.trans ?_ (State.dropAll_carried _ _)
  refine State.setPort_carried ⟨_, _, _, _, _, rfl⟩ fun _ => ?_
  simp [Port.queuesWf, serviceCapacity, transitCapacity]

theorem State.flushUplink_eq (s : State) :
    s.flushUplink = { s with
      uplink := { s.uplink with
        service := []
        transit := []
        current := none
        counters := { s.uplink.counters with
          flushed := s.uplink.counters.flushed + BitVec.ofNat 32 (s.uplink.service.length + s.uplink.transit.length) } }
      pool := s.flushUplink.pool } := by
  unfold State.flushUplink
  rw [State.dropAll_eq]
  simp [List.length_append]

theorem State.flushUplink_carried (s : State) : Carried s s.flushUplink := by
  unfold State.flushUplink
  refine Carried.trans ?_ (State.dropAll_carried _ _)
  exact State.setUplink_carried fun _ => by simp [Uplink.wf, serviceCapacity, transitCapacity]

/-- A queue one entry shorter, with the next entry taken, is in its form. -/
theorem Port.completed_queuesWf (t : Three SyncEntry) (p : Port) (sv : Bool) (hq : p.queuesWf = true) :
    (Port.takeEntry t (if sv then { p with service := p.service.drop 1, current := none }
      else { p with transit := p.transit.drop 1, current := none })).queuesWf = true := by
  simp only [Port.queuesWf, Bool.and_eq_true, Bool.or_eq_true, decide_eq_true_eq, List.isEmpty_iff, Option.isNone_iff_eq_none] at hq
  obtain ⟨⟨hc, hs⟩, ht⟩ := hq
  cases sv
  · refine Port.takeEntry_queuesWf t _ hs (Nat.le_trans (by simp) ht) ?_
    rcases hc with hc | ⟨⟨h1, h2⟩, h3⟩
    · exact .inl hc
    · exact .inr ⟨h1, by simp [h2], rfl⟩
  · refine Port.takeEntry_queuesWf t _ (Nat.le_trans (by simp) hs) ht ?_
    rcases hc with hc | ⟨⟨h1, h2⟩, h3⟩
    · exact .inl hc
    · exact .inr ⟨by simp [h1], h2, rfl⟩

theorem State.completeEntry_carried (s : State) (i : SegIx) : Carried s (s.completeEntry i) := by
  unfold State.completeEntry
  extract_lets p
  split
  · extract_lets p1
    refine Carried.trans (State.setPort_carried ?_ (Port.completed_queuesWf s.syncs p _)) (State.dropSource_carried _ _)
    rw [Port.takeEntry_eq]
    split <;> exact ⟨_, _, _, _, _, rfl⟩
  · exact .refl s

theorem State.nextCopy_carried (s : State) (i : SegIx) : Carried s (s.nextCopy i) := by
  unfold State.nextCopy
  extract_lets p
  split
  · rename_i c hc
    split
    · refine State.setPort_carried ⟨_, _, _, _, _, rfl⟩ fun hq => ?_
      simp only [Port.queuesWf, Bool.and_eq_true, Bool.or_eq_true, decide_eq_true_eq, List.isEmpty_iff,
        Option.isNone_iff_eq_none] at hq ⊢
      obtain ⟨⟨h, hs⟩, ht⟩ := hq
      rcases h with h | ⟨_, h3⟩
      · exact ⟨⟨.inl h, hs⟩, ht⟩
      · rw [show (s.port i).current = some c from hc] at h3; cases h3
    · exact State.completeEntry_carried s i
  · exact .refl s

theorem State.completeUplink_carried (s : State) : Carried s s.completeUplink := by
  have shorter : ∀ {u : Uplink} {a b : List (QEntry Mac)} {c : Option UplinkCurrent}, a.length ≤ u.service.length →
      b.length ≤ u.transit.length → u.current.isSome = true → u.wf = true →
      ({ u with service := a, transit := b, current := c } : Uplink).wf = true := by
    intro u a b c ha hb hcur hu
    simp only [Uplink.wf, Bool.and_eq_true, Bool.or_eq_true, decide_eq_true_eq, List.isEmpty_iff, Option.isNone_iff_eq_none] at hu ⊢
    obtain ⟨⟨h, hs⟩, ht⟩ := hu
    refine ⟨⟨?_, Nat.le_trans ha hs⟩, Nat.le_trans hb ht⟩
    rcases h with h | ⟨_, h3⟩
    · exact .inl h
    · rw [h3] at hcur; cases hcur
  unfold State.completeUplink
  extract_lets u
  split
  · rename_i c hc
    have hsome : s.uplink.current.isSome = true := by rw [show s.uplink.current = some c from hc]; rfl
    split
    · rename_i e rest heq
      extract_lets u1
      refine Carried.trans (State.setUplink_carried fun hu => ?_) (State.dropSource_carried _ _)
      dsimp only [u1]
      cases hsv : c.service
      · have hl : s.uplink.transit = e :: rest := by rw [hsv] at heq; exact heq
        have hle : rest.length ≤ s.uplink.transit.length := by rw [hl]; exact Nat.le_succ _
        exact shorter (Nat.le_refl _) hle hsome hu
      · have hl : s.uplink.service = e :: rest := by rw [hsv] at heq; exact heq
        have hle : rest.length ≤ s.uplink.service.length := by rw [hl]; exact Nat.le_succ _
        exact shorter hle (Nat.le_refl _) hsome hu
    · exact State.setUplink_carried fun hu => shorter (Nat.le_refl _) (Nat.le_refl _) hsome hu
  · exact .refl s

/-! ## The change of segment state (R23) -/

/-- The port at the moment its state changes: flushed when it leaves FORWARDING (R23, R35). -/
theorem State.changeState_base (s : State) (i : SegIx) :
    (if (s.port i).state = .forwarding then s.flushSegment i else s) = { s with
      ports := (if (s.port i).state = .forwarding then s.flushSegment i else s).ports
      pool := (if (s.port i).state = .forwarding then s.flushSegment i else s).pool } := by
  split
  · rw [State.flushSegment_eq]
  · rfl

/-- What a change of state touches: ports, the pool's references, one segment's JABBER, raised events and notices (R23). -/
theorem State.changeState_frame (s : State) (i : SegIx) (new : SegState) (r : Option IsoReason) (c : StateCause) :
    s.changeState i new r c = { s with
      raised := (s.changeState i new r c).raised
      ports := (s.changeState i new r c).ports
      sups := (s.changeState i new r c).sups
      pool := (s.changeState i new r c).pool
      mgmt := (s.changeState i new r c).mgmt } := by
  unfold State.changeState
  extract_lets old s0 p stops p1 s1 s2 s3 s4
  have h0 : s0 = { s with ports := s0.ports, pool := s0.pool } := State.changeState_base s i
  have h2 : s2 = { s with ports := s2.ports, sups := s2.sups, pool := s2.pool } := by
    dsimp only [s2, s1]
    split
    · unfold State.jabberStopped State.setSup State.setPort; rw [h0]
    · unfold State.setPort; rw [h0]
  rw [State.notify_eq]
  dsimp only [s4, s3]
  split <;> (unfold State.raise; rw [h2])

/-- Another port is untouched (R18). -/
theorem State.changeState_port_ne (s : State) {i j : SegIx} (new : SegState) (r : Option IsoReason) (c : StateCause) (h : j ≠ i) :
    (s.changeState i new r c).port j = s.port j := by
  unfold State.changeState
  extract_lets old s0 p stops p1 s1 s2 s3 s4
  have h0 : s0.port j = s.port j := by
    dsimp only [s0]
    split
    · rw [State.flushSegment_port, if_neg h]
    · rfl
  have h2 : s2.port j = s.port j := by
    dsimp only [s2]
    split
    · exact (State.setPort_port_ne s0 p1 h).trans h0
    · exact (State.setPort_port_ne s0 p1 h).trans h0
  rw [State.notify_port, State.raise_port]
  dsimp only [s4, s3]
  split <;> simpa using h2

/-- The port after its change of state (R19, R23, R25, R35): queues empty when FORWARDING was left, relay, line code, settle
timer, isolation reason and receiver as the new state has them. -/
theorem State.changeState_port_same (s : State) (i : SegIx) (new : SegState) (r : Option IsoReason) (c : StateCause) :
    (s.changeState i new r c).port i =
      let p := (if (s.port i).state = .forwarding then s.flushSegment i else s).port i
      { p with
        state := new
        relay := new.relay
        lineCode := p.codeFor new
        settleTimer := if new = .settling then .running p.settleTime else .stopped
        reason := nextReason p.reason new r
        receiver := p.receiver.change (s.port i).state new } := by
  unfold State.changeState
  extract_lets old s0 p stops p1 s1 s2 s3 s4
  have h2 : s2.port i = p1 := by
    dsimp only [s2]
    split
    · exact State.setPort_port_same s0 i p1
    · exact State.setPort_port_same s0 i p1
  rw [State.notify_port, State.raise_port]
  dsimp only [s4, s3]
  split <;> simpa using h2

/-- The events a change raises: for the Line Supervisor, for the Line Tester when ISOLATED is left, for Printer Delivery (R23). -/
theorem State.changeState_raised (s : State) (i : SegIx) (new : SegState) (r : Option IsoReason) (c : StateCause) :
    (s.changeState i new r c).raised =
      s.raised ++ [.stateEntry i (s.port i).state new (nextReason (s.port i).reason new r)] ++
        (if (s.port i).state = .isolated then [.leftIsolated i] else []) ++ [.segmentChange i] := by
  unfold State.changeState
  extract_lets old s0 p stops p1 s1 s2 s3 s4
  have h0 : s0.raised = s.raised := by
    have := State.changeState_base s i
    exact (congrArg State.raised this).trans rfl
  have hr : p.reason = (s.port i).reason := by
    dsimp only [p, s0]
    split
    · rw [State.flushSegment_port, if_pos rfl]
    · rfl
  have h2 : s2.raised = s.raised := by
    dsimp only [s2]
    split <;> exact h0
  rw [State.notify_raised, State.raise_raised]
  dsimp only [s4, s3, p1, old]
  rw [hr]
  split <;> simp [h2]

/-- The notice a change passes: SEGMENT_STATE with the port as it stands after it (R23). -/
theorem State.changeState_mgmt (s : State) (i : SegIx) (new : SegState) (r : Option IsoReason) (c : StateCause) :
    (s.changeState i new r c).mgmt = s.mgmt.noted (.segmentState i (s.port i).state new
      (if new = .isolated then ((s.changeState i new r c).port i).reason else none) ((s.changeState i new r c).port i).relay
      ((s.changeState i new r c).port i).lineCode c) := by
  rw [State.changeState_port_same]
  unfold State.changeState
  extract_lets old s0 p stops p1 s1 s2 s3 s4
  rw [State.notify_mgmt]
  have h0 : s0.mgmt = s.mgmt := (congrArg State.mgmt (State.changeState_base s i)).trans rfl
  have h2 : s2.mgmt = s.mgmt := by dsimp only [s2]; split <;> exact h0
  have h4 : (s4.raise (.segmentChange i)).mgmt = s.mgmt := by dsimp only [s4, s3]; split <;> exact h2
  rw [h4]

/-- The supervision contexts after a change: the segment's JABBER is clear where the change ended it (R12), the rest as before. -/
theorem State.changeState_sup (s : State) (i : SegIx) (new : SegState) (r : Option IsoReason) (c : StateCause) (j : SegIx) :
    (s.changeState i new r c).sup j =
      if j = i ∧ (s.port i).receiver.marked = true ∧ new.detectsJabber = false then
        { s.sup i with live := (s.sup i).live.set .jabber false }
      else s.sup j := by
  unfold State.changeState
  extract_lets old s0 p stops p1 s1 s2 s3 s4
  have h0 : ∀ k, s0.sup k = s.sup k := fun k => by
    have : s0.sups = s.sups := (congrArg State.sups (State.changeState_base s i)).trans rfl
    unfold State.sup; rw [this]
  have hs : stops = ((s.port i).receiver.marked && !new.detectsJabber) := by
    have hr : p.receiver = (s.port i).receiver := by
      dsimp only [p, s0]
      split
      · rw [State.flushSegment_port, if_pos rfl]
      · rfl
    dsimp only [stops]; rw [hr]
  have h2 : s2.sup j = if j = i ∧ (s.port i).receiver.marked = true ∧ new.detectsJabber = false then
        { s.sup i with live := (s.sup i).live.set .jabber false }
      else s.sup j := by
    by_cases hc : (s.port i).receiver.marked = true ∧ new.detectsJabber = false
    · have ht : stops = true := by rw [hs]; simp [hc.1, hc.2]
      have : s2 = s1.jabberStopped i := if_pos ht
      rw [this]
      unfold State.jabberStopped
      rw [State.setSup_sup]
      by_cases hj : j = i
      · subst hj
        rw [if_pos rfl, if_pos ⟨rfl, hc⟩]
        show ({ s0.sup j with live := (s0.sup j).live.set .jabber false } : Supervision) = _
        rw [h0]
      · rw [if_neg hj, if_neg fun h => hj h.1]
        exact h0 j
    · have hf : ¬ stops = true := by rw [hs]; simpa using hc
      have : s2 = s1 := if_neg hf
      rw [this, if_neg fun h => hc h.2]
      exact h0 j
  rw [State.notify_sup, State.raise_sup, ← h2]
  dsimp only [s4, s3]
  split <;> simp

/-- A change out of a state other than FORWARDING leaves the page pool (R23, R35). -/
theorem State.changeState_pool (s : State) (i : SegIx) (new : SegState) (r : Option IsoReason) (c : StateCause)
    (h : (s.port i).state ≠ .forwarding) : (s.changeState i new r c).pool = s.pool := by
  unfold State.changeState
  extract_lets old s0 p stops p1 s1 s2 s3 s4
  have h0 : s0.pool = s.pool := by dsimp only [s0]; rw [if_neg h]
  have h2 : s2.pool = s.pool := by dsimp only [s2]; split <;> exact h0
  rw [State.notify_pool, State.raise_pool]
  dsimp only [s4, s3]
  split <;> simpa using h2

/-! ## Line Supervisor and Line Tester -/

/-- A written record touches its own context and the notices (R60). -/
theorem State.writeRecord_eq (s : State) (i : SegIx) (k : FaultKind) (d : Option Nat) :
    s.writeRecord i k d = { s with
      sups := s.sups.set i { s.sup i with
        nextSeq := (s.sup i).nextSeq + 1
        history := ⟨(s.sup i).nextSeq, s.time.seconds, k, (s.sup i).health, d⟩ :: (s.sup i).history.take (historyCapacity - 1) }
      mgmt := s.mgmt.noted (.fault i ⟨(s.sup i).nextSeq, s.time.seconds, k, (s.sup i).health, d⟩) } := by
  unfold State.writeRecord
  extract_lets c r
  rw [State.notify_eq]
  rfl

/-- A history keeps to eight records (R60). -/
theorem history_bound (r : FaultRecord) (h : List FaultRecord) : (r :: h.take (historyCapacity - 1)).length ≤ historyCapacity := by
  simp only [List.length_cons, List.length_take, historyCapacity]
  omega

/-- Feeding a window changes one context's counts and nothing else (R13). -/
theorem State.feedWindow_eq (s : State) (i : SegIx) (f : WindowCounts → WindowCounts) :
    s.feedWindow i f = s.setSup i { s.sup i with
      counts := if (s.port i).state.supervised then f (s.sup i).counts else (s.sup i).counts } := by
  unfold State.feedWindow
  split
  · rfl
  · exact congrArg (fun v => { s with sups := v }) (Four.set_get s.sups i).symm

/-- Feeding the receive counters changes one port's receive counters and nothing else (R13). -/
theorem State.feedCounters_eq (s : State) (i : SegIx) (f : RxCounters → RxCounters) :
    s.feedCounters i f = s.setPort i { s.port i with rx := if (s.port i).state = .forwarding then f (s.port i).rx else (s.port i).rx } := by
  unfold State.feedCounters
  split
  · rfl
  · exact congrArg (fun v => { s with ports := v }) (Four.set_get s.ports i).symm

/-- Setting a live condition touches its context, and through a latch the notices and the order raised (R53, R54). -/
theorem State.setLive_frame (s : State) (i : SegIx) (k : Condition) (st : SegState) :
    s.setLive i k st = { s with
      raised := (s.setLive i k st).raised
      sups := (s.setLive i k st).sups
      mgmt := (s.setLive i k st).mgmt } := by
  unfold State.setLive
  extract_lets c s1 s2
  have h : s2 = { s with sups := s2.sups, mgmt := s2.mgmt } := by
    dsimp only [s2]
    unfold State.latch
    rw [State.writeRecord_eq]
    rfl
  split
  · rfl
  · split
    · split
      · unfold State.raise; rw [h]
      · rw [h]
    · rfl

/-! ## Requests (R170, R171) -/

/-- A request that is taken is carried out and answered, whatever it is. -/
theorem State.request_taken {s : State} {tag : Byte} (h : s.takes tag) (code : Byte) (handler : State → State × Answer) :
    s.request code tag handler =
      .next ((handler s.bufferEmptied).1.fileReply
        (replyMsg code tag (handler s.bufferEmptied).2.status (handler s.bufferEmptied).2.body)).settle := by
  obtain ⟨h1, h2⟩ := h
  simp only [State.takesRequests, Bool.and_eq_true, Bool.not_eq_true', Option.isNone_iff_eq_none] at h1
  unfold State.request State.requestArrives State.judgeRequest State.carryOut
  rw [if_neg (by simp [h1.1]), if_neg h2, if_neg (by simp [h1.2])]
  rfl

/-- The Management Port after a request is taken, its rule's notices being `m`'s. -/
theorem State.fileReply_settle_mgmt (s : State) (r : Msg) : (s.fileReply r).settle.mgmt =
    Mgmt.takeNext { s.mgmt with reply := some r, refusalOlder := s.mgmt.refusal.isSome } := rfl

/-- The Management Port after a request whose event passed one notice. -/
theorem Mgmt.noted_answered {u : State} {m : Mgmt} {n : Notice} (h : u.mgmt = ({ m with rx := emptyBuffer } : Mgmt).noted n)
    (r : Msg) : (u.fileReply r).settle.mgmt = (m.noted n).answered r := by
  rw [State.fileReply_settle_mgmt, h]
  unfold Mgmt.answered Mgmt.noted
  dsimp only
  split
  · split <;> rfl
  · rfl

/-- Every handler a segment request uses answers RANGE above segment 3 and leaves the state (R18). -/
theorem onSegment_range {seg : Byte} (act : SegIx → State → State × Answer) (s : State) (h : 3 < seg.toNat) :
    onSegment seg act s = (s, ⟨.range, []⟩) := by
  unfold onSegment segOf
  rw [dif_neg (by omega)]
  rfl

/-- A segment number from 0 to 3 names its segment (R18). -/
theorem onSegment_segment (i : SegIx) (act : SegIx → State → State × Answer) (s : State) :
    onSegment (segByte i) act s = act i s := by
  have : segOf (segByte i) = some i := by
    match i with
    | 0 => rfl
    | 1 => rfl
    | 2 => rfl
    | 3 => rfl
  unfold onSegment
  rw [this]

end Sys2Proof.Machine
end

