-- ==== Sys2Proof/Laws/PerInstr.lean ====
section
/-! SUPPORT. A statement made per command: the request message of a well-formed command has a body that fits a message and a code
in the request runs of R184. -/

namespace Sys2Proof.Laws.RequestForm

/-- Where a well-formed command is a request, its body has at most 300 bytes (chapter 10) and its code lies in the runs that R184
gives requests, 0x10 to 0x8A. -/
def Statement (i : Instr) : Prop :=
  wellFormed i = true → ∀ code tag body, encodeRequest i = some (code, tag, body) →
    body.length ≤ Machine.maxBody ∧ 0x10 ≤ code.toNat ∧ code.toNat ≤ 0x8A

/-- A command that is no request says nothing. -/
theorem of_none {i : Instr} (h : encodeRequest i = none) : Statement i := fun _ _ _ _ e => by rw [h] at e; cases e

/-- A request with a short body and a code in the runs. -/
theorem of_some {i : Instr} {c t : Byte} {b : List Byte} (h : encodeRequest i = some (c, t, b))
    (hb : b.length ≤ Machine.maxBody) (hc : 0x10 ≤ c.toNat ∧ c.toNat ≤ 0x8A) : Statement i := fun _ _ _ _ e => by
  rw [h] at e; cases e; exact ⟨hb, hc⟩

theorem pinOrPowerReset (strap1 strap2 : Bool) : Statement (.pinOrPowerReset strap1 strap2) := of_none rfl

theorem timeBaseTick : Statement (.timeBaseTick) := of_none rfl

theorem messageReceived (line : List LineItem) : Statement (.messageReceived line) := of_none rfl

theorem messageSent (strap1 strap2 : Bool) : Statement (.messageSent strap1 strap2) := of_none rfl

theorem getInfo (tag : Byte) : Statement (.getInfo tag) :=
  of_some rfl (Nat.le_of_ble_eq_true rfl) (by decide)

theorem getStatus (tag : Byte) : Statement (.getStatus tag) :=
  of_some rfl (Nat.le_of_ble_eq_true rfl) (by decide)

theorem reset (tag : Byte) : Statement (.reset tag) :=
  of_some rfl (Nat.le_of_ble_eq_true rfl) (by decide)

theorem setNotices (tag : Byte) (kinds : Half) : Statement (.setNotices tag kinds) :=
  of_some rfl (Nat.le_of_ble_eq_true rfl) (by decide)

theorem setSegmentConfig (tag seg : Byte) (body : SegmentConfigBody) : Statement (.setSegmentConfig tag seg body) :=
  of_some rfl (Nat.le_of_ble_eq_true rfl) (by decide)

theorem enableSegment (tag seg : Byte) : Statement (.enableSegment tag seg) :=
  of_some rfl (Nat.le_of_ble_eq_true rfl) (by decide)

theorem disableSegment (tag seg : Byte) : Statement (.disableSegment tag seg) :=
  of_some rfl (Nat.le_of_ble_eq_true rfl) (by decide)

theorem isolateSegment (tag seg : Byte) : Statement (.isolateSegment tag seg) :=
  of_some rfl (Nat.le_of_ble_eq_true rfl) (by decide)

theorem rejoinSegment (tag seg : Byte) : Statement (.rejoinSegment tag seg) :=
  of_some rfl (Nat.le_of_ble_eq_true rfl) (by decide)

theorem parkSegment (tag seg : Byte) : Statement (.parkSegment tag seg) :=
  of_some rfl (Nat.le_of_ble_eq_true rfl) (by decide)

theorem setTrim (tag seg code : Byte) : Statement (.setTrim tag seg code) :=
  of_some rfl (Nat.le_of_ble_eq_true rfl) (by decide)

theorem startLineTest (tag seg trim : Byte) : Statement (.startLineTest tag seg trim) :=
  of_some rfl (Nat.le_of_ble_eq_true rfl) (by decide)

theorem abortLineTest (tag seg : Byte) : Statement (.abortLineTest tag seg) :=
  of_some rfl (Nat.le_of_ble_eq_true rfl) (by decide)

theorem getSegment (tag seg : Byte) : Statement (.getSegment tag seg) :=
  of_some rfl (Nat.le_of_ble_eq_true rfl) (by decide)

theorem getFaults (tag seg : Byte) : Statement (.getFaults tag seg) :=
  of_some rfl (Nat.le_of_ble_eq_true rfl) (by decide)

theorem clearFaults (tag seg : Byte) : Statement (.clearFaults tag seg) :=
  of_some rfl (Nat.le_of_ble_eq_true rfl) (by decide)

theorem clearHistory (tag seg : Byte) : Statement (.clearHistory tag seg) :=
  of_some rfl (Nat.le_of_ble_eq_true rfl) (by decide)

theorem setSyncWord (tag index : Byte) (pattern : SyncWord) (tolerance enabled : Byte) : Statement (.setSyncWord tag index pattern tolerance enabled) :=
  of_some rfl (Nat.le_of_ble_eq_true rfl) (by decide)

theorem getStation (tag number : Byte) : Statement (.getStation tag number) :=
  of_some rfl (Nat.le_of_ble_eq_true rfl) (by decide)

theorem listStations (tag number : Byte) : Statement (.listStations tag number) :=
  of_some rfl (Nat.le_of_ble_eq_true rfl) (by decide)

theorem pin (tag number seg : Byte) : Statement (.pin tag number seg) :=
  of_some rfl (Nat.le_of_ble_eq_true rfl) (by decide)

theorem unpin (tag number : Byte) : Statement (.unpin tag number) :=
  of_some rfl (Nat.le_of_ble_eq_true rfl) (by decide)

theorem forget (tag number : Byte) : Statement (.forget tag number) :=
  of_some rfl (Nat.le_of_ble_eq_true rfl) (by decide)

theorem setAging (tag unit hold : Byte) : Statement (.setAging tag unit hold) :=
  of_some rfl (Nat.le_of_ble_eq_true rfl) (by decide)

theorem setGatewayNumber (tag number : Byte) : Statement (.setGatewayNumber tag number) :=
  of_some rfl (Nat.le_of_ble_eq_true rfl) (by decide)

theorem setAlias (tag index number : Byte) (mac : Mac) : Statement (.setAlias tag index number mac) :=
  of_some rfl (Nat.le_of_ble_eq_true rfl) (by decide)

theorem clearAlias (tag index : Byte) : Statement (.clearAlias tag index) :=
  of_some rfl (Nat.le_of_ble_eq_true rfl) (by decide)

theorem setProxyBase (tag : Byte) (mac : Mac) : Statement (.setProxyBase tag mac) :=
  of_some rfl (Nat.le_of_ble_eq_true rfl) (by decide)

theorem setUplink (tag : Byte) (etherType : Half) (broadcast : Byte) : Statement (.setUplink tag etherType broadcast) :=
  of_some rfl (Nat.le_of_ble_eq_true rfl) (by decide)

theorem getPortCounters (tag port clear : Byte) : Statement (.getPortCounters tag port clear) :=
  of_some rfl (Nat.le_of_ble_eq_true rfl) (by decide)

theorem setPool (tag : Byte) (reserve quota : Half) : Statement (.setPool tag reserve quota) :=
  of_some rfl (Nat.le_of_ble_eq_true rfl) (by decide)

theorem getPool (tag : Byte) : Statement (.getPool tag) :=
  of_some rfl (Nat.le_of_ble_eq_true rfl) (by decide)

theorem setGroup (tag group service mode threshold : Byte) (members : List Byte) (rebind : Option Byte) :
    Statement (.setGroup tag group service mode threshold members rebind) := fun w code t body e => by
  simp only [wellFormed, membersFit, decide_eq_true_eq] at w
  simp only [encodeRequest, Option.some.injEq, Prod.mk.injEq] at e
  obtain ⟨rfl, rfl, rfl⟩ := e
  have hr : rebind.toList.length ≤ 1 := by cases rebind <;> simp
  refine ⟨?_, by decide, by decide⟩
  simp only [List.length_append, List.length_cons, List.length_nil, Machine.maxBody]
  omega

theorem clearGroup (tag group : Byte) : Statement (.clearGroup tag group) :=
  of_some rfl (Nat.le_of_ble_eq_true rfl) (by decide)

theorem setPrinter (tag printer station : Byte) (rate blockTimeout endTimeout : Half) (stopAfter : Byte) : Statement (.setPrinter tag printer station rate blockTimeout endTimeout stopAfter) :=
  of_some rfl (Nat.le_of_ble_eq_true rfl) (by decide)

theorem clearPrinter (tag printer : Byte) : Statement (.clearPrinter tag printer) :=
  of_some rfl (Nat.le_of_ble_eq_true rfl) (by decide)

theorem holdPrinter (tag printer : Byte) : Statement (.holdPrinter tag printer) :=
  of_some rfl (Nat.le_of_ble_eq_true rfl) (by decide)

theorem releasePrinter (tag printer : Byte) : Statement (.releasePrinter tag printer) :=
  of_some rfl (Nat.le_of_ble_eq_true rfl) (by decide)

theorem getPrinter (tag printer : Byte) : Statement (.getPrinter tag printer) :=
  of_some rfl (Nat.le_of_ble_eq_true rfl) (by decide)

theorem getJob (tag : Byte) (job : Half) : Statement (.getJob tag job) :=
  of_some rfl (Nat.le_of_ble_eq_true rfl) (by decide)

theorem cancelJob (tag : Byte) (job : Half) : Statement (.cancelJob tag job) :=
  of_some rfl (Nat.le_of_ble_eq_true rfl) (by decide)

theorem listJobs (tag : Byte) (start : Half) : Statement (.listJobs tag start) :=
  of_some rfl (Nat.le_of_ble_eq_true rfl) (by decide)

theorem setJobIdle (tag : Byte) (time : Half) : Statement (.setJobIdle tag time) :=
  of_some rfl (Nat.le_of_ble_eq_true rfl) (by decide)

theorem activityStart (seg : SegIx) : Statement (.activityStart seg) := of_none rfl

theorem syncWordComplete (seg : SegIx) (word : SyncWord) : Statement (.syncWordComplete seg word) := of_none rfl

theorem activityEnd (seg : SegIx) (bytes : List Byte) : Statement (.activityEnd seg bytes) := of_none rfl

theorem collisionDetected (seg : SegIx) : Statement (.collisionDetected seg) := of_none rfl

theorem jabberMark (seg : SegIx) : Statement (.jabberMark seg) := of_none rfl

theorem transmitAttempt (seg : SegIx) : Statement (.transmitAttempt seg) := of_none rfl

theorem backoffExpiry (seg : SegIx) : Statement (.backoffExpiry seg) := of_none rfl

theorem copySent (seg : SegIx) : Statement (.copySent seg) := of_none rfl

theorem settleTimerExpiry (seg : SegIx) : Statement (.settleTimerExpiry seg) := of_none rfl

theorem isolationOrder (seg : SegIx) : Statement (.isolationOrder seg) := of_none rfl

theorem rejoinOrder (seg : SegIx) : Statement (.rejoinOrder seg) := of_none rfl

theorem isolationOrderResult (seg : SegIx) : Statement (.isolationOrderResult seg) := of_none rfl

theorem supervisorStateEntry (seg : SegIx) : Statement (.supervisorStateEntry seg) := of_none rfl

theorem testerSegmentLeftIsolated (seg : SegIx) : Statement (.testerSegmentLeftIsolated seg) := of_none rfl

theorem windowExpiry (seg : SegIx) : Statement (.windowExpiry seg) := of_none rfl

theorem flapTimerExpiry (seg : SegIx) : Statement (.flapTimerExpiry seg) := of_none rfl

theorem autoTestRequest (seg : SegIx) : Statement (.autoTestRequest seg) := of_none rfl

theorem quietCheckPassed : Statement (.quietCheckPassed) := of_none rfl

theorem quietCheckFailed : Statement (.quietCheckFailed) := of_none rfl

theorem quietWaitExpiry : Statement (.quietWaitExpiry) := of_none rfl

theorem probeDisturbed : Statement (.probeDisturbed) := of_none rfl

theorem rangingComplete (echo : RangingLine) : Statement (.rangingComplete echo) := of_none rfl

theorem trimProbeComplete (ohmNum ohmDen : Nat) : Statement (.trimProbeComplete ohmNum ohmDen) := of_none rfl

theorem agingTimerExpiry : Statement (.agingTimerExpiry) := of_none rfl

theorem uplinkUp : Statement (.uplinkUp) := of_none rfl

theorem uplinkDown : Statement (.uplinkDown) := of_none rfl

theorem tunnelFrameReceived (frame : List Byte) : Statement (.tunnelFrameReceived frame) := of_none rfl

theorem uplinkTransmitStart : Statement (.uplinkTransmitStart) := of_none rfl

theorem uplinkSendDone (sent : Bool) : Statement (.uplinkSendDone sent) := of_none rfl

theorem idleTimerExpiry (job : Half) : Statement (.idleTimerExpiry job) := of_none rfl

theorem jobChangeTaken : Statement (.jobChangeTaken) := of_none rfl

theorem printerEvaluation : Statement (.printerEvaluation) := of_none rfl

theorem blockTimerExpiry (printer : Fin 16) : Statement (.blockTimerExpiry printer) := of_none rfl

theorem retryTimerExpiry (printer : Fin 16) : Statement (.retryTimerExpiry printer) := of_none rfl

theorem endTimerExpiry (printer : Fin 16) : Statement (.endTimerExpiry printer) := of_none rfl

theorem resetPinHeld : Statement (.resetPinHeld) := of_none rfl

end Sys2Proof.Laws.RequestForm
end

