-- ==== Sys2Proof/Laws/PoolKept.lean ====
section
/-! SUPPORT. No operation of Printer Delivery, no end of a job and no event of printing touches the Page Pool's own state: what they
send are spans of job pages and empty payloads, never stored frames. -/

namespace Sys2Proof.Machine

/-- The Page Pool is the same. -/
structure PoolKept (s t : State) : Prop where
  pool : t.pool = s.pool

theorem PoolKept.refl (s : State) : PoolKept s s := ⟨rfl⟩

theorem PoolKept.trans {s t u : State} (h : PoolKept s t) (k : PoolKept t u) : PoolKept s u := ⟨k.pool.trans h.pool⟩

theorem PoolKept.foldl {α : Type} (f : State → α → State) (h : ∀ s a, PoolKept s (f s a)) (l : List α) (s : State) :
    PoolKept s (l.foldl f s) := by
  induction l generalizing s with
  | nil => exact PoolKept.refl s
  | cons a l ih => exact (h s a).trans (ih _)

theorem PoolKept.foldlPair {α β : Type} (f : State × β → α → State × β) (h : ∀ s b a, PoolKept s (f (s, b) a).1) (l : List α)
    (s : State) (b : β) : PoolKept s (l.foldl f (s, b)).1 := by
  induction l generalizing s b with
  | nil => exact PoolKept.refl s
  | cons a l ih => exact (h s b a).trans (ih _ _)

theorem State.raise_poolKept (s : State) (r : Raised) : PoolKept s (s.raise r) := ⟨rfl⟩
theorem State.setJob_poolKept (s : State) (j : Job) : PoolKept s (s.setJob j) := ⟨rfl⟩
theorem State.dropJob_poolKept (s : State) (n : Half) : PoolKept s (s.dropJob n) := ⟨rfl⟩
theorem State.setPrinter_poolKept (s : State) (p : Nat) (e : Printer) : PoolKept s (s.setPrinter p e) := ⟨rfl⟩
theorem State.notify_poolKept (s : State) (n : Notice) : PoolKept s (s.notify n) := ⟨by simp⟩
theorem State.withdrawPage_poolKept (s : State) (page : Nat) : PoolKept s (s.withdrawPage page) := ⟨rfl⟩

/-- An offer of anything but a stored frame leaves the pool alone (R126). -/
theorem State.offerService_pool (s : State) (r : Route) (x : PayloadSource) (h : Header) (hx : ∀ f, x ≠ .stored f) :
    (s.offerService r x h).1.pool = s.pool := by
  have add : ∀ t : State, (t.addSource x).pool = t.pool := by
    intro t
    cases x with
    | stored f => exact absurd rfl (hx f)
    | span p o n => rfl
    | nothing => rfl
  unfold State.offerService
  split
  · unfold State.offerSegment
    dsimp only
    split
    · exact add _
    · rfl
  · unfold State.offerUplink
    dsimp only
    split
    · exact add _
    · rfl

theorem State.offerToPrinter_poolKept (s : State) (n : Byte) (x : PayloadSource) (h : Header) (hx : ∀ f, x ≠ .stored f) :
    PoolKept s (s.offerToPrinter n x h) := by
  unfold State.offerToPrinter
  split
  · exact ⟨State.offerService_pool s _ x h hx⟩
  · exact .refl s

theorem State.sendAbort_poolKept (s : State) (n : Byte) : PoolKept s (s.sendAbort n) :=
  State.offerToPrinter_poolKept s _ _ _ (fun _ h => by cases h)

theorem State.offerFlight_poolKept (s : State) (n : Byte) (f : Flight) : PoolKept s (s.offerFlight n f) :=
  State.offerToPrinter_poolKept s _ _ _ (fun _ h => by split at h <;> cases h)

theorem State.sendNext_poolKept (s : State) (p : Nat) : PoolKept s (s.sendNext p) := by
  unfold State.sendNext
  split
  · exact .refl s
  · split
    · split
      · split
        · exact ((State.offerFlight_poolKept _ _ _).trans (State.setPrinter_poolKept _ _ _)).trans (State.setJob_poolKept _ _)
        · exact .refl s
      · exact .refl s
    · exact .refl s

theorem State.startHead_poolKept (s : State) (p : Nat) : PoolKept s (s.startHead p) := by
  unfold State.startHead
  split
  · exact .refl s
  · split
    · split
      · exact (State.setJob_poolKept _ _).trans (State.sendNext_poolKept _ _)
      · exact (State.setJob_poolKept _ _).trans (State.sendNext_poolKept _ _)
      · exact .refl s
    · exact .refl s

theorem State.releaseChain_poolKept (s : State) (j : Job) : PoolKept s (s.releaseChain j) :=
  (State.setJob_poolKept s _).trans (PoolKept.foldl State.withdrawPage State.withdrawPage_poolKept _ _)

theorem State.finishJob_poolKept (s : State) (j : Job) (o : JobOutcome) : PoolKept s (s.finishJob j o) := by
  unfold State.finishJob
  dsimp only
  refine ((State.releaseChain_poolKept s j).trans ?_).trans (State.dropJob_poolKept _ _)
  refine PoolKept.trans ?_ (State.notify_poolKept _ _)
  split
  · split
    · exact State.setPrinter_poolKept _ _ _
    · exact .refl _
  · exact .refl _

theorem State.enterEnding_poolKept (s : State) (j : Job) : PoolKept s (s.enterEnding j) := by
  unfold State.enterEnding
  extract_lets s1
  have h : PoolKept s s1 := State.setJob_poolKept s _
  split
  · split
    · exact h.trans (State.setPrinter_poolKept _ _ _)
    · exact h
  · exact h

theorem State.noteState_poolKept (s : State) (p : Nat) : PoolKept s (s.noteState p) := by
  unfold State.noteState
  split
  · exact .refl s
  · extract_lets st reason
    split
    · exact .refl s
    · exact (State.setPrinter_poolKept _ _ _).trans (State.notify_poolKept _ _)

theorem State.returnJob_poolKept (s : State) (j : Job) : PoolKept s (s.returnJob j) := by
  unfold State.returnJob
  extract_lets s1
  have h : PoolKept s s1 := State.setJob_poolKept s _
  split
  · split
    · extract_lets s2
      have h2 : PoolKept s s2 := h.trans (State.setPrinter_poolKept _ _ _)
      split
      · split
        · exact h2.trans (State.withdrawPage_poolKept _ _)
        · exact h2
      · exact h2
    · exact h
  · exact h

theorem State.abortIfOffered_poolKept (s : State) (e : Printer) (j : Job) : PoolKept s (s.abortIfOffered e j) := by
  unfold State.abortIfOffered
  split
  · exact State.sendAbort_poolKept s _
  · exact .refl s

theorem State.losePrinter_poolKept (s : State) (p : Nat) : PoolKept s (s.losePrinter p).1 := by
  unfold State.losePrinter
  split
  · exact .refl s
  · dsimp only
    refine PoolKept.trans ?_ (PoolKept.foldl _ (fun s j => (State.abortIfOffered_poolKept s _ j).trans (State.returnJob_poolKept _ j)) _ _)
    split
    · split
      · exact State.finishJob_poolKept s _ _
      · split
        · exact State.setJob_poolKept s _
        · exact .refl s
    · exact .refl s

theorem State.takeFinding_poolKept (s : State) (p : Nat) : PoolKept s (s.takeFinding p).1 := by
  unfold State.takeFinding
  split
  · exact .refl s
  · extract_lets lost s1
    have h1 : PoolKept s s1 := State.noteState_poolKept s p
    split
    rename_i s2 freed heq
    have h2 : PoolKept s s2 := by
      split at heq
      · have := State.losePrinter_poolKept s1 p
        rw [heq] at this
        exact h1.trans this
      · cases heq; exact h1
    exact h2.trans (State.noteState_poolKept _ p)

theorem State.startIfReady_poolKept (s : State) (p : Nat) : PoolKept s (s.startIfReady p) := by
  unfold State.startIfReady
  split
  · split
    · exact State.startHead_poolKept s p
    · exact .refl s
  · exact .refl s

theorem State.evaluate_poolKept (s : State) (p : Nat) : PoolKept s (s.evaluate p).1 :=
  (State.startIfReady_poolKept s p).trans (State.takeFinding_poolKept _ p)

theorem State.bind_poolKept (s : State) (j : Job) (p : Nat) : PoolKept s (s.bind j p) := by
  unfold State.bind
  split
  · exact (State.setPrinter_poolKept _ _ _).trans (State.setJob_poolKept _ _)
  · exact .refl s

theorem State.tryGroup_poolKept (n : Nat) (s : State) (g : Nat) : PoolKept s (State.tryGroup n s g).1 := by
  induction n generalizing s with
  | zero => exact .refl s
  | succ n ih =>
    unfold State.tryGroup
    split
    · exact .refl s
    · split
      · exact ((State.bind_poolKept s _ _).trans (State.evaluate_poolKept _ _)).trans (ih _)
      · exact .refl s

theorem State.tryGroups_poolKept (s : State) (gs : List Nat) : PoolKept s (s.tryGroups gs).1 :=
  PoolKept.foldlPair _ (fun s _ g => State.tryGroup_poolKept _ s g) _ s []

theorem State.bindRounds_poolKept (n : Nat) (s : State) (gs : List Nat) : PoolKept s (State.bindRounds n s gs) := by
  induction n generalizing s gs with
  | zero => exact .refl s
  | succ n ih =>
    cases gs with
    | nil => exact .refl s
    | cons g gs => exact (State.tryGroups_poolKept s (g :: gs)).trans (ih _ _)

theorem State.bindIn_poolKept (s : State) (gs : List Nat) : PoolKept s (s.bindIn gs) := State.bindRounds_poolKept _ s gs

theorem State.touch_poolKept (s : State) (p : Nat) (gs : List Nat) : PoolKept s (s.touch p gs) :=
  (State.evaluate_poolKept s p).trans (State.bindIn_poolKept _ _)

theorem State.finishHere_poolKept (s : State) (p : Nat) (e : Printer) (j : Job) (o : JobOutcome) :
    PoolKept s (s.finishHere p e j o) := (State.finishJob_poolKept s j o).trans (State.touch_poolKept _ p _)

theorem State.holdHead_poolKept (s : State) (e : Printer) : PoolKept s (s.holdHead e) := by
  unfold State.holdHead
  split
  · split
    · exact State.setJob_poolKept s _
    · exact .refl s
  · exact .refl s

theorem State.acceptBlock_poolKept (s : State) (p : Nat) (e : Printer) (f : Flight) (j : Job) :
    PoolKept s (s.acceptBlock p e f j) := by
  unfold State.acceptBlock
  extract_lets chain j1 e1 s1 s2
  have h1 : PoolKept s s1 := (State.setJob_poolKept s j1).trans (State.setPrinter_poolKept _ p e1)
  have h2 : PoolKept s s2 := by
    dsimp only [s2]
    split
    · exact h1.trans (State.withdrawPage_poolKept _ _)
    · exact h1
  split
  · split
    · exact h2.trans (State.finishHere_poolKept _ _ _ _ _)
    · exact (h2.trans (State.enterEnding_poolKept _ _)).trans (State.touch_poolKept _ _ _)
  · split
    · exact (h2.trans (State.sendNext_poolKept _ _)).trans (State.touch_poolKept _ _ _)
    · exact h2.trans (State.touch_poolKept _ _ _)

theorem State.blockExpired_poolKept (s : State) (p : Nat) (e : Printer) (f : Flight) (j : Job) :
    PoolKept s (s.blockExpired p e f j) := by
  unfold State.blockExpired
  split
  · split
    · exact ((State.offerFlight_poolKept s _ _).trans (State.setPrinter_poolKept _ _ _)).trans (State.touch_poolKept _ _ _)
    · exact ((State.setPrinter_poolKept s _ _).trans (State.setJob_poolKept _ _)).trans (State.touch_poolKept _ _ _)
  · exact (State.setPrinter_poolKept s _ _).trans (State.touch_poolKept _ _ _)

theorem State.blockAck_poolKept (s : State) (n c : Byte) : PoolKept s (s.blockAck n c) := by
  unfold State.blockAck
  split
  · exact .refl s
  · split
    · split
      · split
        · exact State.acceptBlock_poolKept s _ _ _ _
        · split
          · exact (State.setPrinter_poolKept s _ _).trans (State.touch_poolKept _ _ _)
          · split
            · exact State.blockExpired_poolKept s _ _ _ _
            · exact .refl s
      · exact .refl s
    · exact .refl s

theorem State.printerStatus_poolKept (s : State) (n c : Byte) : PoolKept s (s.printerStatus n c) := by
  unfold State.printerStatus
  split
  · exact .refl s
  · split
    · exact (State.setPrinter_poolKept s _ _).trans (State.touch_poolKept _ _ _)
    · split
      · exact ((State.setPrinter_poolKept s _ _).trans (State.holdHead_poolKept _ _)).trans (State.touch_poolKept _ _ _)
      · split
        · exact ((State.setPrinter_poolKept s _ _).trans (State.holdHead_poolKept _ _)).trans (State.touch_poolKept _ _ _)
        · split
          · split
            · split
              · exact State.finishHere_poolKept s _ _ _ _
              · exact (State.setPrinter_poolKept s _ _).trans (State.touch_poolKept _ _ _)
            · exact (State.setPrinter_poolKept s _ _).trans (State.touch_poolKept _ _ _)
          · exact .refl s

/-! ## Ends of jobs (R140) and the events of printing -/

theorem State.leavePrinter_poolKept (s : State) (j : Job) : PoolKept s (s.leavePrinter j) := by
  unfold State.leavePrinter
  split
  · exact ((State.takeFinding_poolKept s _).trans (State.bindIn_poolKept _ _)).trans (State.raise_poolKept _ _)
  · exact .refl s

theorem State.touchPrinter_poolKept (s : State) (j : Job) : PoolKept s (s.touchPrinter j) := by
  unfold State.touchPrinter
  split
  · exact State.touch_poolKept s _ _
  · exact .refl s

theorem State.stopAtPrinter_poolKept (s : State) (j : Job) (c : EndCause) : PoolKept s (s.stopAtPrinter j c) := by
  unfold State.stopAtPrinter
  extract_lets s1 j1 s2
  have h : PoolKept s s2 := (State.releaseChain_poolKept s j).trans (State.enterEnding_poolKept _ _)
  split
  · exact h.trans (State.sendAbort_poolKept _ _)
  · exact h

theorem State.endJob_poolKept (s : State) (j : Job) (c : EndCause) : PoolKept s (s.endJob j c) := by
  unfold State.endJob
  dsimp only
  refine (State.setJob_poolKept s { j with isOpen := false, idleTimer := .stopped }).trans ?_
  split
  · exact State.finishJob_poolKept _ _ _
  · exact (State.finishJob_poolKept _ _ _).trans (State.leavePrinter_poolKept _ _)
  · exact (State.stopAtPrinter_poolKept _ _ _).trans (State.touchPrinter_poolKept _ _)
  · split
    · exact (State.stopAtPrinter_poolKept _ _ _).trans (State.touchPrinter_poolKept _ _)
    · exact (State.finishJob_poolKept _ _ _).trans (State.leavePrinter_poolKept _ _)
  · exact State.setJob_poolKept _ _
theorem State.idleExpiry_poolKept (s : State) (n : Half) : PoolKept s (s.idleExpiry n) := by
  unfold State.idleExpiry
  split
  · split
    · exact State.endJob_poolKept s _ _
    · exact .refl s
  · exact .refl s

theorem State.takeJobChange_poolKept (c : Half × Option Nat) (s : State) : PoolKept s (State.takeJobChange c s) := by
  unfold State.takeJobChange
  split
  · refine PoolKept.trans ?_ (State.touch_poolKept _ _ _)
    unfold State.sendIfHead
    split
    · split
      · exact State.sendNext_poolKept s _
      · exact .refl s
    · exact .refl s
  · exact State.bindIn_poolKept s _

theorem State.evaluateAll_poolKept (s : State) (ps gs : List Nat) : PoolKept s (s.evaluateAll ps gs) := by
  unfold State.evaluateAll
  exact (PoolKept.foldlPair _ (fun s _ p => State.evaluate_poolKept s p) ps s gs).trans (State.bindIn_poolKept _ _)

theorem State.takeEvaluation_poolKept (c : EvaluationCall) (s : State) : PoolKept s (State.takeEvaluation c s) :=
  State.evaluateAll_poolKept s _ _

theorem State.blockTimerExpiry_poolKept (s : State) (p : Nat) : PoolKept s (s.blockTimerExpiry p) := by
  unfold State.blockTimerExpiry
  split
  · split
    · split
      · exact State.blockExpired_poolKept s _ _ _ _
      · exact .refl s
    · exact .refl s
  · exact .refl s

theorem State.retryTimerExpiry_poolKept (s : State) (p : Nat) : PoolKept s (s.retryTimerExpiry p) := by
  unfold State.retryTimerExpiry
  split
  · split
    · split
      · unfold State.retryExpired
        split
        · exact ((State.offerFlight_poolKept s _ _).trans (State.setPrinter_poolKept _ _ _)).trans (State.touch_poolKept _ _ _)
        · exact (State.setPrinter_poolKept s _ _).trans (State.touch_poolKept _ _ _)
      · exact .refl s
    · exact .refl s
  · exact .refl s

theorem State.endTimerExpiry_poolKept (s : State) (p : Nat) : PoolKept s (s.endTimerExpiry p) := by
  unfold State.endTimerExpiry
  split
  · split
    · split
      · exact (State.setPrinter_poolKept s _ _).trans (State.finishHere_poolKept _ _ _ _ _)
      · exact .refl s
    · exact .refl s
  · exact .refl s

end Sys2Proof.Machine
end

