-- ==== Sys2Proof/Tests/Slice0.lean ====
section
/-! SUPPORT. Tests: what WellFormed refuses, messages decoded, the manual's check values and worked examples, single steps, and for
each obligation with hypotheses a state and operands that meet them. Each expected value is the manual's. -/

namespace Sys2Proof.Tests

open Sys2Proof Sys2Proof.Machine

set_option Elab.async false

/-! ## Helpers: small states, and the state after one command -/

/-- The state after a command. -/
def after (c : Instr) (s : State) : State :=
  match exec c s with
  | .next t => t
  | _ => s

/-- The state after some commands, in their order. -/
def run (s : State) : List Instr → State
  | [] => s
  | c :: cs => run (after c s) cs

/-- A port as R18, R19 and R25 have it in a state. -/
def portIn (st : SegState) : Port :=
  { State.reset.port 0 with
    state := st
    relay := st.relay
    settleTimer := if st = .settling then .running 20 else .stopped
    reason := if st = .isolated then some (.fault .jabber) else none }

/-- Reset, but for one segment's state. -/
def segIn (i : SegIx) (st : SegState) : State := { State.reset with ports := State.reset.ports.set i (portIn st) }

/-- A test of segment 2 at a stage. -/
def testOf (stage : TestStage) : TestContext :=
  { segment := 2, cause := .request, stage := stage, attempts := 1, trimRequested := true, accepted := 0, bit := 5, prior := 48,
    parkedBefore := true, rangingDone := false, wait := .stopped, raiseAfterWait := false }

/-- Segment 2 in TESTING with a context. -/
def testing (c : TestContext) : State :=
  { segIn 2 .testing with tester := { State.reset.tester with context := some c } }

/-- A station entry on a side. -/
def stationOn (k : Known) : Station := ⟨k, false, false, false⟩

/-- A printer entry as SET_PRINTER leaves it on a reachable station. -/
def readyPrinter (n : Byte) : Printer :=
  { station := n, nominalRate := 600, rate := 600, blockTimeout := 1000, endTimeout := 60, stopAfter := false,
    pause := PauseSet.clear, queue := [], nextSeq := 0, flight := none, resends := 0, blockTimer := .stopped, retryTimer := .stopped,
    endTimer := .stopped, found := .ready, foundReason := none, foundPause := PauseSet.clear }

/-- Segments 0 and 3 FORWARDING; station 5 ACTIVE on 0, station 9 ACTIVE on 3 with printer 15 on it, station 12 EMPTY; group 7 with
service number 200 and printer 15 its one member; alias 31 the number 201; the uplink UP; the reply slot empty. -/
def office : State :=
  { State.reset with
    ports := (State.reset.ports.set 0 (portIn .forwarding)).set 3 (portIn .forwarding)
    table := { State.reset.table with
      entries := [(5, stationOn (.active ⟨0, 1, 0⟩)), (9, ⟨.active ⟨3, 0, 0⟩, false, true, false⟩)]
      aliases := [(31, ⟨201, 0x061A2B3C4D5E⟩)] }
    uplink := { State.reset.uplink with up := true }
    delivery :=
      { printers := [(15, readyPrinter 9)]
        groups := [(7, { service := 200, balanced := false, threshold := 0, members := [15], rebind := true })] } }

/-- A closed job of group 7 with two pages of data, waiting. -/
def waitingJob : Job :=
  { number := 7, source := 5, origin := .segment 0, group := some 7, service := 200, urgent := true, isOpen := false, lastSeq := 6,
    lastFirst := false, expected := 7, received := 300, chain := [40, 41], lastActivity := 0, idleTimer := .stopped,
    pendingOutcome := none, delivery := .waiting, delivered := 0, printer := none, printerSeq := 0, blockOffered := false,
    activeTime := 0 }

/-- The office with one job. -/
def withJob (j : Job) : State := { office with intake := { office.intake with jobs := [j] } }

/-- The office with a job that is printer 15's head, its first block in flight. -/
def withHead (d : DeliveryState) (outcome : Option JobOutcome) (chain : List Nat) (delivered resends : Nat) (held : Bool) : State :=
  let f : Flight :=
    { job := 7, seq := 0, first := true, last := false, urgent := true, count := 256, page := some 40, outstanding := true }
  let e : Printer :=
    { readyPrinter 9 with
      queue := [7]
      flight := if d = .printing then some f else none
      resends := resends
      blockTimer := if d = .printing then .running 5 else .stopped
      retryTimer := if d = .printing then .running 5 else .stopped
      endTimer := if d = .ending then .running 5 else .stopped
      found := .busy }
  { withJob { waitingJob with delivery := d, printer := some 15, pendingOutcome := outcome, chain := chain, delivered := delivered } with
    delivery := { office.delivery with printers := [(15, e)] }
    uplink := { office.uplink with up := held } }

/-- A state with a carrier on a segment, 0 unless it is named, and a reception in progress. -/
def hearing (s : State) (r : Option Reception) (i : SegIx := 0) : State :=
  { s with ports := s.ports.set i { s.port i with receiver :=
      { lineCarrier := true, collisionSeen := false, marked := false, carrierTimer := .running 3, reception := r } } }

/-- A state where a good frame is being heard on a segment, its sync word entry 0's without a mismatch. -/
def hearingGood (s : State) (i : SegIx := 0) : State := hearing s (some ⟨.accepted 0 0, false, false⟩) i

/-- A state whose outstanding answer is out of the way: the host may send a request. -/
def asking (s : State) : State := { s with mgmt := { s.mgmt with reply := none } }

/-- DATA from 5 to 9. -/
def dataHeader (len : Half) : Header := ⟨9, 5, 0x01, 0, len⟩

/-- A print block from 5 to service number 200. -/
def blockHeader (ctl : Byte) (len : Half) : Header := ⟨200, 5, 0x10, ctl, len⟩

/-! ## What WellFormed refuses -/

theorem test_wellFormed_refuses_256_members : wellFormed (.setGroup 1 0 200 1 0 (List.replicate 256 0) none) = false := by decide +kernel

theorem test_wellFormed_refuses_no_probe : wellFormed (.rangingComplete ⟨0, []⟩) = false := by decide

theorem test_wellFormed_refuses_excursions_out_of_order :
    wellFormed (.rangingComplete ⟨10, [⟨5, 1, false⟩, ⟨4, 1, true⟩]⟩) = false ∧
      wellFormed (.rangingComplete ⟨10, [⟨5, 1, false⟩, ⟨5, 1, true⟩]⟩) = false := by decide

theorem test_wellFormed_refuses_no_impedance :
    wellFormed (.trimProbeComplete 0 1) = false ∧ wellFormed (.trimProbeComplete 50 0) = false := by decide

/-! ## Decoding: the table's words, and messages written out from R184 and R189 -/

theorem test_table_gives_no_bits : decodeTableWord 8 0x12 = none := by decide

theorem test_decode_part : decodeRequest 0x13 9 [0x00, 0x06] = some (.setNotices 9 6) := by decide +kernel

theorem test_decode_segment : decodeRequest 0x2D 1 [0x02, 0x7D, 0x7E, 0x01, 0x02, 0x01] = some (.setSyncWord 1 2 0x7D7E01 2 1) := by
  decide +kernel

theorem test_decode_address :
    decodeRequest 0x47 1 [0x03, 0xC8, 0x06, 0x1A, 0x2B, 0x3C, 0x4D, 0x5E] = some (.setAlias 1 3 200 0x061A2B3C4D5E) := by decide +kernel

theorem test_decode_uplink : decodeRequest 0x60 1 [0x9A, 0x2C, 0x01] = some (.setUplink 1 0x9A2C 1) := by decide +kernel

theorem test_decode_print : decodeRequest 0x80 1 [0x02, 0xC8, 0x02, 0x00, 0x02, 0x03, 0x05, 0x01] =
    some (.setGroup 1 2 200 2 0 [3, 5] (some 1)) := by decide +kernel

theorem test_decode_refuses_a_body_of_another_size : decodeRequest 0x12 1 [0x00] = none ∧ decodeRequest 0x1F 1 [] = none := by
  decide +kernel

/-! ## Check values and worked examples of the manual -/

/-- The check of chapter 1: the digits 1 to 9. -/
theorem test_crc_check : trunkCrc [0x31, 0x32, 0x33, 0x34, 0x35, 0x36, 0x37, 0x38, 0x39] = 0x29B1 := by decide +kernel

/-- The check of R180. -/
theorem test_fcs_check : fcsValue [0x31, 0x32, 0x33, 0x34, 0x35, 0x36, 0x37, 0x38, 0x39] = 0xCBF43926 ∧
    fcsBytes [0x31, 0x32, 0x33, 0x34, 0x35, 0x36, 0x37, 0x38, 0x39] = [0x26, 0x39, 0xF4, 0xCB] := by decide +kernel

/-- "Correlation worked through", chapter 1. -/
theorem test_correlation :
    let t : Three SyncEntry := ⟨⟨0x6B1D59, 2, true⟩, ⟨0x4E72A3, 2, true⟩, ⟨0x6B1D5F, 2, true⟩⟩
    correlate t 0x6B1D59 = .accepted 0 0 ∧ correlate t 0x6B1D58 = .accepted 0 1 ∧ correlate t 0x6B1D5B = .accepted 0 1 ∧
      correlate t 0x4E72A1 = .accepted 1 1 ∧ correlate resetSyncs 0x4E72A3 = .rejected := by decide +kernel

/-- "The health arithmetic worked through", chapter 3: windows 1 to 7. -/
theorem test_health_arithmetic :
    windowError ⟨200, 8, 30, 10, 0⟩ = 221 ∧ windowError ⟨50, 0, 150, 40, 0⟩ = 981 ∧ windowError ⟨40, 0, 5, 0, 1⟩ = 1023 ∧
      windowError ⟨0, 0, 0, 0, 0⟩ = 0 ∧ windowError ⟨10, 0, 60, 30, 0⟩ = 1023 ∧ healthStep 0 221 2 = 56 ∧ healthStep 56 981 2 = 288 ∧
      healthStep 288 1023 2 = 472 ∧ healthStep 472 0 2 = 354 ∧ healthStep 354 1023 2 = 522 ∧ healthStep 522 1023 2 = 648 ∧
      healthStep 648 1023 2 = 742 := by decide +kernel

/-- "Distance and drift worked through", chapter 4. -/
theorem test_distance : (2005, 2039, 20270) = (echoDistance 405 660, echoDistance 412 660, echoDistance 4095 660) := by decide +kernel

/-- R73: the echo is the first excursion of 10% of the probe, not the largest. -/
theorem test_first_echo :
    ((after (.rangingComplete ⟨100, [⟨50, 9, true⟩, ⟨100, 12, false⟩, ⟨300, 80, true⟩]⟩) (testing (testOf .ranging))).tester.captures.get
      2).current.map (fun c => (c.t, c.kind)) = some (100, .mismatch) := by decide +kernel

/-- R181: the frame on the line is the 64-bit alternating preamble, starting with 1, the sync word and the frame. -/
theorem test_line_frame : lineFrame 0x6B1D59 ⟨9, 5, 0x01, 0, 0⟩ [] =
    List.replicate 8 0xAA ++ [0x6B, 0x1D, 0x59] ++ trunkBytes ⟨9, 5, 0x01, 0, 0⟩ [] := by decide +kernel

/-- The table of R77. -/
theorem test_trim_resistance : [32, 46, 47, 48, 63].map trimResistance = [750, 522, 511, 500, 381] := by decide +kernel

/-- "A trim search worked through", chapter 4: 52 ohms give code 46. -/
theorem test_trim_search :
    (run (testing { testOf .trim with rangingDone := true }) (List.replicate 6 (.trimProbeComplete 52 1))).mgmt.notices.head? =
      some (.testResult ⟨2, .request, .clean, 1, true, none, none, some (48, 46, false)⟩) := by decide +kernel

/-- The TEST_RESULT bytes of R186. -/
theorem test_result_bytes :
    TestReport.bytes ⟨2, .request, .clean, 3, true, some ⟨412, .mismatch, 660, 2039, 0⟩, some ⟨405, .mismatch, 660, 2005, 0⟩,
      some (48, 46, false)⟩ =
      [0x02, 0x01, 0x01, 0x03, 0x0F, 0x03, 0x01, 0x9C, 0x07, 0xF7, 0x02, 0x94, 0x01, 0x95, 0x07, 0xD5, 0x00, 0x07, 0x00, 0x22,
        0x30, 0x2E, 0x02, 0x0A] := by decide +kernel

/-- The JOB_DONE bytes of R187. -/
theorem test_job_done_bytes :
    JobReport.bytes ⟨7, .cancelled, 31, .segment 2, 240, true, 912, 512, some (4, 60)⟩ =
      [0x00, 0x07, 0x04, 0x1F, 0x02, 0xF0, 0x01, 0x00, 0x00, 0x03, 0x90, 0x00, 0x00, 0x02, 0x00, 0x04, 0x3C] := by decide +kernel

/-- "An escaped body", chapter 10. -/
theorem test_escaped_body : (Msg.lineBytes ⟨0x01, 0x2D, 1, [0x02, 0x7D, 0x7E, 0x01, 0x02, 0x01]⟩) =
    [0x01, 0x2D, 0x01, 0x00, 0x06, 0x02, 0x7D, 0x5D, 0x7D, 0x5E, 0x01, 0x02, 0x01] := by decide +kernel

/-- "A transaction worked through", chapter 10, rows 1 to 6. -/
theorem test_transaction :
    let s1 := run State.reset [.messageSent false false, .enableSegment 17 1]
    let s2 := after (.getStatus 18) s1
    let s3 := after (.messageSent false false) s2
    let s4 := after (.getStatus 18) s3
    let s5 := after (.messageSent false false) s4
    let s6 := after (.messageSent false false) s5
    s1.mgmt.sending = some .reply ∧ s1.mgmt.reply = some ⟨0x02, 0x21, 17, [0x00]⟩ ∧ s1.mgmt.notices.length = 1 ∧
      s2.mgmt.refusal = some ⟨0x02, 0x11, 18, [0x09]⟩ ∧ s3.mgmt.sending = some .refusal ∧ s4.mgmt.reply.isSome = true ∧
      s5.mgmt.sending = some .reply ∧
      s6.mgmt.sending = some (.notice (.segmentState 1 .disabled .settling none .transceiver 48 .request)) := by decide +kernel

/-- "A conversation across the uplink worked through", chapter 6: the PC's frame to 42 waits on segment 3 as from 200. -/
theorem test_tunnel_frame :
    let m : Mac := 0x061A2B3C4D5E
    let s : State := { office with table := { office.table with
      entries := [(42, stationOn (.active ⟨3, 0, 1⟩))], aliases := [(3, ⟨200, m⟩)] }, delivery := ⟨[], []⟩ }
    let bare := macBytes 0x0A317000002A ++ macBytes m ++ [0x9A, 0x2C, 0x01, 42, 0, 0x01, 0, 0, 20] ++ List.replicate 39 0
    let t := after (.tunnelFrameReceived (bare ++ fcsBytes bare)) s
    t.uplink.counters.framesIn = 1 ∧ t.freePages = 1023 ∧ (t.port 3).transit = [⟨.stored 0, ⟨42, 200, 0x01, 0, 20⟩, 2#3⟩] := by
  decide +kernel

/-- "A job taken in, worked through", chapter 8, row 1, with a shorter block: FIRST, URGENT, sequence 4 opens job 7, expecting 5, and is
answered ACCEPTED. -/
theorem test_job_opened :
    let s : State := { office with intake := { office.intake with nextNumber := 7 } }
    let t := after (.activityEnd 0 (trunkBytes (blockHeader 0xA4 40) (List.replicate 40 0x41)))
      (hearing s (some ⟨.accepted 0 0, false, false⟩))
    t.intake.jobs.map (fun j => (j.number, j.received, j.chain.length, j.expected, j.urgent)) = [(7, 40, 1, 5, true)] ∧
      t.intake.nextNumber = 8 ∧ t.freePages = 1023 ∧
      (t.port 0).service.map (fun e => e.header) = [⟨5, 200, 0x11, 0x04, 0⟩] := by decide +kernel

/-- Table of R34 and R36: an entry whose sync entry is disabled goes out under entry 0. -/
theorem test_send_list : sendList resetSyncs 2#3 = [0] ∧ sendList resetSyncs 0#3 = [0] ∧
    sendList ⟨⟨1, 0, true⟩, ⟨2, 0, true⟩, ⟨3, 0, true⟩⟩ 6#3 = [1, 2] := by decide +kernel

/-! ## One step -/

/-- Row SET_TRIM of R22: code 0 on a FORWARDING segment is ignored. -/
theorem test_set_trim_zero :
    (after (.setTrim 1 3 0) (segIn 3 .forwarding)).port 3 = portIn .forwarding ∧
      ((after (.setTrim 1 3 0) (segIn 3 .isolated)).port 3).lineCode = 0 := by decide +kernel

/-- R153 to R156: a closed job is bound, started, and its first block goes out with FIRST and URGENT set. -/
theorem test_job_bound :
    let s : State := { withJob waitingJob with raised := [.jobChange 7 (some 7)] }
    let t := after .jobChangeTaken s
    (t.port 3).service = [⟨.span 40 0 256, ⟨9, 253, 0x10, 0xA0, 256⟩, 1#3⟩] ∧
      t.mgmt.notices = [.printerState 15 9 .ready .busy none PauseSet.clear] := by decide +kernel

/-! ## Witnesses: for each obligation with hypotheses, states and operands that meet them, at the ends of their ranges -/

theorem witness_StepRunsFrontCommand : State.reset.pending = [] := by decide

theorem witness_EveryCommandCompletes : ∃ t, exec .timeBaseTick State.reset = .next t := ⟨_, rfl⟩

theorem witness_PinOrPowerResetAndResetPinHeld :
    let rates := [(false, false, 115200), (true, false, 230400), (false, true, 460800), (true, true, 921600)]
    let held := after .resetPinHeld State.reset
    ((false, false, 115200) ∈ rates ∧ (true, true, 921600) ∈ rates) ∧
      (held.mgmt.pinHeld = true ∧ (encodeRequest (.getInfo 1)).isSome = true) := by decide

theorem witness_GetInfo : State.reset.takes 1 ∧ State.reset.takes 255 ∧
    ∃ t, exec (.pinOrPowerReset true true) State.reset = .next t ∧ t.mgmt.rate ≠ State.reset.mgmt.rate :=
  ⟨by decide, by decide, _, rfl, by decide⟩

theorem witness_GetStatusSetNoticesAndReset : State.reset.takes 1 ∧ (testing (testOf .trim)).takes 255 := by decide

theorem witness_MessageSent :
    let idle := after (.messageSent false false) State.reset
    let answering := after (.getInfo 1) idle
    let resetting := after (.reset 1) idle
    let refusing := after (.getInfo 0) idle
    State.reset.mgmt.sending = some (.notice (.started .pinOrPower 115200)) ∧ refusing.mgmt.sending = some .refusal ∧
      (answering.mgmt.sending = some .reply ∧ answering.mgmt.resetTaken = false) ∧
      (resetting.mgmt.sending = some .reply ∧ resetting.mgmt.resetTaken = true) ∧ idle.mgmt.sending = none := by decide +kernel

theorem witness_MessageSent_frame : ∃ t, exec .timeBaseTick State.reset = .next t ∧
    State.reset.mgmt.sending = some (.notice (.started .pinOrPower 115200)) ∧
    t.mgmt.sending = some (.notice (.started .pinOrPower 115200)) := ⟨_, rfl, by decide⟩

theorem witness_MessageReceivedIsRequest :
    wellFormed (.setTrim 1 3 63) = true ∧ encodeRequest (.setTrim 1 3 63) = some (0x26, 1, [3, 63]) ∧
      State.reset.mgmt.rx.hunting = true ∧ (after (.getInfo 1) State.reset).mgmt.rx = ⟨false, [], false, false⟩ := by decide +kernel

theorem witness_RequestDecodeEncodeAgree :
    let c : Instr := .setGroup 255 7 254 2 7 (List.replicate 255 0) none
    wellFormed c = true ∧ encodeRequest c = some (0x80, 255, [7, 254, 2, 7, 255] ++ List.replicate 255 0) ∧
      decodeRequest 0x10 0 [] = some (.getInfo 0) := by decide +kernel

theorem witness_MessagesRefused :
    (encodeRequest (.getInfo 0) = some (0x10, 0, []) ∧ State.reset.mgmt.pinHeld = false) ∧
      (after (.getInfo 1) State.reset).mgmt.reply.isSome = true ∧
      (encodeRequest (.clearHistory 1 4) = some (0x2C, 1, [4]) ∧ State.reset.takes 1) ∧
      (let s := after (.getInfo 0) State.reset
       s.mgmt.pinHeld = false ∧ s.mgmt.rx.hunting = false ∧ (∀ x ∈ [LineItem.byte 0x01, .lineError], x ≠ .byte 0x7E)) ∧
      ((0x02 : Byte) ≠ 0x01 ∧ State.reset.mgmt.rx.hunting = true) ∧
      (decodeRequest 0x2E 1 [] = none ∧ decodeRequest 0x21 1 [] = none) := by decide +kernel

theorem witness_RequestsAnswered : encodeRequest (.getSegment 1 3) = some (0x29, 1, [3]) ∧ State.reset.takes 1 ∧
    State.reset.supsWf = true ∧ ∃ t, exec (.getSegment 1 3) State.reset = .next t :=
  ⟨by decide +kernel, by decide, by decide +kernel, _, rfl⟩

/-! ### Segment requests -/

theorem witness_EnableSegment : ((segIn 0 .disabled).takes 1 ∧ ((segIn 0 .disabled).port 0).state = .disabled) ∧
    ((segIn 3 .parked).takes 255 ∧ ((segIn 3 .parked).port 3).state ≠ .disabled) := by decide

theorem witness_IsolateSegment :
    (∀ st ∈ [SegState.settling, .forwarding], (segIn 3 st).takes 1 ∧ (segIn 3 st).portsWf = true ∧ ((segIn 3 st).port 3).state = st) ∧
      ((segIn 0 .isolated).takes 1 ∧ (segIn 0 .isolated).portsWf = true ∧ ((segIn 0 .isolated).port 0).state = .isolated) := by
  decide +kernel

theorem witness_ParkSegment :
    (∀ st ∈ [SegState.settling, .forwarding, .isolated, .parked, .disabled],
      (segIn 3 st).takes 1 ∧ (segIn 3 st).portsWf = true ∧ ((segIn 3 st).port 3).state = st) ∧
      (let s := testing (testOf .ranging)
       s.takes 1 ∧ s.portsWf = true ∧ (s.port 2).state = .testing) := by decide +kernel

theorem witness_RejoinSegment :
    (∀ st ∈ [SegState.isolated, .parked, .disabled, .settling, .forwarding, .testing],
      (segIn 3 st).takes 1 ∧ ((segIn 3 st).port 3).state = st) := by decide +kernel

theorem witness_SetTrim : (63 < (64 : Byte).toNat ∧ (63 : Byte).toNat ≤ 63) ∧
    ((segIn 0 .forwarding).takes 1 ∧ ((segIn 0 .forwarding).port 0).state = .forwarding) ∧
    ((segIn 3 .testing).takes 1 ∧ ((segIn 3 .testing).port 3).state ≠ .forwarding) ∧
    (let c := { testOf .trim with bit := 0, accepted := 46 }
     (testing c).takes 1 ∧ (testing c).tester.context = some c ∧ c.segment = 2 ∧ (testing c).portsWf = true ∧
       (testing c).tester.pendingFlags.get 2 = false ∧ c.accepted ≠ 0 ∧ ¬ 2400 * 1 > 52 * (c.accepted + 1).toNat) := by decide +kernel

/-- The fields of SET_SEGMENT_CONFIG with two thresholds. -/
def configOf (high low : Half) : SegmentConfigBody :=
  { window := 10, shift := 2, high := high, low := low, strikes := 3, rejoinWindows := 5, maskWindows := 1, isolateSet := 7,
    autoIsolate := 1, autoRejoin := 1, autoTest := 0, flapLimit := 3, vf := 660, parkPolicy := 3, settleTime := 20 }

theorem witness_SetSegmentConfig : State.reset.takes 1 ∧
    (min 1023 (configOf 128 128).high.toNat ≤ min 1023 (configOf 128 128).low.toNat) ∧
    (min 1023 (configOf 65535 1023).high.toNat ≤ min 1023 (configOf 65535 1023).low.toNat) ∧
    (min 1023 (configOf 65535 1022).low.toNat < min 1023 (configOf 65535 1022).high.toNat) ∧
    1 < ({ configOf 1 0 with autoTest := 2 } : SegmentConfigBody).autoTest.toNat ∧
    (¬ 3 < (configOf 1 0).parkPolicy.toNat ∧ ¬ 7 < (configOf 1 0).isolateSet.toNat ∧ ¬ 1 < (configOf 1 0).autoTest.toNat) := by
  decide

theorem witness_StartLineTest :
    (1 < (2 : Byte).toNat ∧ (1 : Byte).toNat ≤ 1) ∧
      (∀ st ∈ [SegState.disabled, .settling, .forwarding], (segIn 3 st).takes 1 ∧ (segIn 3 st).portsWf = true ∧
        ((segIn 3 st).port 3).state = st) ∧
      (let s := testing (testOf .trim)
       s.takes 1 ∧ s.portsWf = true ∧ (s.port 2).state = .testing) ∧
      (let s := { testing (testOf .trim) with ports := (testing (testOf .trim)).ports.set 0 (portIn .parked) }
       s.portsWf = true ∧ (s.port 0).state = .parked ∧ s.tester.context.isSome = true) ∧
      (∀ st ∈ [SegState.isolated, .parked], (segIn 3 st).takes 1 ∧ (segIn 3 st).portsWf = true ∧ ((segIn 3 st).port 3).state = st ∧
        (segIn 3 st).tester.context = none) := by decide +kernel

theorem witness_ClearFaultsHistoryAndSyncWord : State.reset.takes 1 ∧ 2 < (3 : Byte).toNat ∧ 1 < (2 : Byte).toNat := by decide

/-! ### Reading, counters, uplink and pool -/

theorem witness_ReadingRequests : State.reset.takes 1 ∧ office.table.wf = true ∧
    ((1 : Byte) ≠ 0 ∧ (254 : Byte) ≠ 255) ∧ ((1 : Half) ≠ 0) := by decide +kernel

theorem witness_CountersAndUplinkSettings : State.reset.takes 1 ∧ 4 < (5 : Byte).toNat ∧ 1 < (2 : Byte).toNat ∧
    0x0600 ≤ (0x0600 : Half).toNat ∧ (0x05FF : Half).toNat < 0x0600 := by decide

theorem witness_ClampedSettingsAndPool : State.reset.takes 1 ∧ office.takes 255 := by decide

/-! ### Addressing requests -/

theorem witness_GatewayAndProxyBase : office.takes 1 ∧ (office.unclaimed 12 ∧ ¬ office.named 12) ∧ 253 = office.table.gateway ∧
    (9 ≠ office.table.gateway ∧ ¬ office.unclaimed 9 ∧ office.named 9) ∧
    (let m : Mac := 0x0A3170000000
     m.getLsbD 41 = true ∧ m.getLsbD 40 = false ∧ m.extractLsb' 0 8 = 0 ∧
      ∀ a ∈ office.table.aliases, a.2.mac.extractLsb' 8 40 ≠ m.extractLsb' 8 40) ∧
    ((0x083170000000 : Mac).getLsbD 41 = false ∧ (0x0B3170000000 : Mac).getLsbD 40 = true ∧
      (0x0A3170000001 : Mac).extractLsb' 0 8 ≠ 0) ∧
    (let m : Mac := 0x061A2B3C4D00
     m.getLsbD 41 = true ∧ m.getLsbD 40 = false ∧ m.extractLsb' 0 8 = 0 ∧
      ∃ a ∈ office.table.aliases, a.2.mac.extractLsb' 8 40 = m.extractLsb' 8 40) := by decide +kernel

theorem witness_Aliases : office.takes 1 ∧ office.claimsWf = true ∧ office.table.wf = true ∧
    (31 < (32 : Byte).toNat ∧ (0x010000000000 : Mac).getLsbD 40 = true) ∧
    ((tableGet office.table.aliases 31).map AliasEntry.number ≠ some 200 ∧ ¬ office.unclaimed 200) ∧
    (∃ a ∈ office.table.aliases, a.1 ≠ 0 ∧ a.2.mac = 0x061A2B3C4D5E) ∧
    ((0x0A31700000FE : Mac).extractLsb' 8 40 = office.table.proxyBase.extractLsb' 8 40) ∧
    ((tableGet office.table.aliases 31).map AliasEntry.number = some 201 ∧ office.unclaimed 12 ∧
      (∀ a ∈ office.table.aliases, a.1 ≠ 31 → a.2.mac ≠ 0x020000000001) ∧
      (0x020000000001 : Mac).extractLsb' 8 40 ≠ office.table.proxyBase.extractLsb' 8 40) := by decide +kernel

/-- The office with station 12 heard on segments 0 and 3. -/
def doubled (x y : Nat) : State :=
  { office with table := { office.table with entries := office.table.entries ++ [(12, stationOn (.duplicate ⟨0, x, 0⟩ ⟨3, y, 1⟩))] } }

theorem witness_PinAndForget_pin : office.takes 1 ∧ 3 < (4 : Byte).toNat ∧ (office.claimed 253 ∧ office.claimed 200 ∧ office.claimed 201) ∧
    (¬ office.claimed 12 ∧ (office.table.entry 12).known = .empty ∧ ¬ office.named 12) ∧
    (let s := { office with delivery := ⟨[(0, readyPrinter 12)], []⟩ }
     s.takes 1 ∧ ¬ s.claimed 12 ∧ (s.table.entry 12).known = .empty ∧ s.named 12) ∧
    (¬ office.claimed 5 ∧ (office.table.entry 5).known = .active ⟨0, 1, 0⟩) ∧
    ((doubled 1 2).takes 1 ∧ ¬ (doubled 1 2).claimed 12 ∧
      ((doubled 1 2).table.entry 12).known = .duplicate ⟨0, 1, 0⟩ ⟨3, 2, 1⟩) := by decide +kernel

theorem witness_Unpin : office.takes 1 ∧ (office.table.entry 12).known = .empty ∧ (office.table.entry 9).known ≠ .empty ∧
    (∀ k ∈ [Known.quiet ⟨0, 10, 0⟩, .active ⟨0, 0, 0⟩],
      let s := { office with table := { office.table with entries := office.table.entries ++ [(12, stationOn k)] } }
      s.table.wf = true ∧ s.table.agingTimer ≠ .stopped ∧ (s.table.entry 12).pinned = false ∧ (s.table.entry 12).held = false ∧
        (s.table.entry 12).known = k) := by decide +kernel

theorem witness_PinAndForget_forget : office.takes 1 ∧ (office.table.entry 12).known = .empty ∧
    ((office.table.entry 9).known ≠ .empty ∧ (office.table.entry 9).held = true) ∧
    ((office.table.entry 5).held = false ∧ (office.table.entry 5).known = .active ⟨0, 1, 0⟩) ∧
    ((doubled 1 1).takes 1 ∧ ((doubled 1 1).table.entry 12).held = false ∧
      ((doubled 1 1).table.entry 12).known = .duplicate ⟨0, 1, 0⟩ ⟨3, 1, 1⟩) := by decide +kernel

/-! ### Printing requests -/

theorem witness_SetGroup : office.takes 1 ∧ office.delivery.wf = true ∧ office.claimsWf = true ∧
    (¬ (8 : Byte).toNat < 8 ∧ ¬ (8 : Byte).toNat ≤ 7) ∧
    ((7 : Byte).toNat < 8 ∧ (7 : Byte).toNat ≤ 7 ∧ (∀ m ∈ [(15 : Byte)], m.toNat < 16) ∧ [(15 : Byte)].Nodup) ∧
    (office.printer 14).isSome = false ∧ (office.printer 15).isSome = true ∧
    (¬ office.unclaimed 5 ∧ (office.group 7).map Group.service ≠ some 5) ∧
    (office.unclaimed 12 ∧ ¬ office.named 12 ∧ (office.group 7).map Group.service = some 200 ∧ office.group 0 = none) ∧
    (let s := withJob waitingJob
     s.takes 1 ∧ s.delivery.wf = true ∧ s.claimsWf = true ∧ s.unclaimed 12 ∧ ∃ j ∈ s.intake.jobs, j.group = some 7) ∧
    ((∀ j ∈ office.intake.jobs, j.group ≠ some 7) ∧ (office.group 7).map Group.members = some [15]) := by decide +kernel

theorem witness_ClearGroup : 7 < (8 : Byte).toNat ∧ (office.takes 1 ∧ office.jobsWf = true ∧ office.group 6 = none) ∧
    (let s := withJob waitingJob
     s.takes 1 ∧ s.jobsWf = true ∧ (s.group 7).isSome = true) := by decide +kernel

theorem witness_JobsEnd : office.takes 1 ∧ office.job 7 = none ∧
    (let s := withJob waitingJob
     s.takes 1 ∧ s.jobsWf = true ∧ s.job 7 = some waitingJob ∧ waitingJob.idleTimer = .stopped) ∧
    (∀ d ∈ [DeliveryState.queued, .printing, .held, .ending],
      (withHead d none [40] 256 0 true).takes 1 ∧ (withHead d none [40] 256 0 true).jobsWf = true ∧
        ((withHead d none [40] 256 0 true).job 7).map Job.delivery = some d) ∧
    (let s := { withHead .held none [40] 256 0 true with ports := State.reset.ports }
     s.takes 1 ∧ s.jobsWf = true ∧ (s.job 7).map Job.delivery = some .held ∧ s.unreachable 9 ≠ none) ∧
    (let s := withHead .printing none [40] 256 0 true
     s.routeTo 9 = some (.segment 3 1#3) ∧ (s.port 3).state = .forwarding ∧ (s.port 3).service.length < 8) ∧
    (withJob { waitingJob with idleTimer := .running 0 }).job 7 = some { waitingJob with idleTimer := .running 0 } := by decide +kernel

/-! ### Receiver events -/

theorem witness_ReceptionStarts :
    let r : Reception := ⟨.awaited, false, false⟩
    ((hearing office (some r)).port 0).receiver.reception = some r ∧
      (∀ k : SyncIx, ¬ ((resetSyncs.get k).enabled = true ∧ mismatchCount 0 (resetSyncs.get k).pattern ≤ (resetSyncs.get k).tolerance)) ∧
      ((resetSyncs.get 0).enabled = true ∧ mismatchCount 0x6B1D5A (resetSyncs.get 0).pattern = 2) ∧
      (office.port 0).receiver.reception = none := by decide +kernel

/-- An open job of station 5 on group 7, its last stored block sequence 4, whose chain holds so many bytes. -/
def openJob (received : Nat) (chain : List Nat) : Job :=
  { waitingJob with
    isOpen := true
    lastSeq := 4
    lastFirst := true
    expected := 5
    received := received
    chain := chain
    idleTimer := .running 60000 }

theorem witness_JabberMark : (office.port 0).receiver.carrierTimer = .stopped ∧
    ((hearing office none).port 0).receiver.carrierTimer ≠ .stopped := by decide

/-! ### Transmitter events -/

/-- The office with an entry on segment 3's queue, its transmitter at a phase of the copies and the attempt given. -/
def sendingOn (phase : TxPhase) (copies : List SyncIx) (attempt : Nat) (service : Bool) : State :=
  let e : QEntry SyncSet := ⟨.nothing, ⟨9, 253, 0x13, 0, 0⟩, 1#3⟩
  let p : Port :=
    { office.port 3 with
      service := if service then [e] else []
      transit := if service then [] else [e]
      current := some ⟨service, copies, attempt, none, phase⟩ }
  { office with ports := office.ports.set 3 p }

theorem witness_CollisionDetected :
    (State.reset.port 3).state = .disabled ∧ ((office.port 3).isSending = false ∧ (office.port 3).receiver.lineCarrier = false) ∧
      (let p := (hearing office none).port 0
       p.state = .forwarding ∧ p.isSending = false ∧ p.receiver.lineCarrier = true ∧ p.receiver.collisionSeen = false) ∧
      (∀ n ∈ [1, 11, 12], ((sendingOn (.sending []) [0, 2] n true).port 3).isSending = true ∧
        ((sendingOn (.sending []) [0, 2] n true).port 3).current = some ⟨true, [0, 2], n, none, .sending []⟩) ∧
      (∀ b : Bool, ((sendingOn (.sending []) [0] 12 b).port 3).current = some ⟨b, [0], 12, none, .sending []⟩) ∧
      (((sendingOn (.sending []) [0] 12 true).port 3).service ≠ [] ∧ ((sendingOn (.sending []) [0] 12 false).port 3).transit ≠ []) := by
  decide +kernel

/-- R38: a collision ends an attempt with 32 bits of jam, at the first attempt and at the twelfth. -/
theorem test_collision_jams : ∀ n ∈ [1, 12],
    ((after (.collisionDetected 3) (sendingOn (.sending [1]) [0, 2] n true)).port 3).lineOut.length = 4 := by decide +kernel

theorem witness_TransmitterEvents :
    let e : QEntry SyncSet := ⟨.nothing, ⟨9, 253, 0x13, 0, 0⟩, 1#3⟩
    (∀ ph ∈ [TxPhase.deferring, .backoff 0, .backoff 255, .sending []], ∀ copies ∈ [[(0 : SyncIx)], [0, 2]],
      ((sendingOn ph copies 1 true).port 3).current = some ⟨true, copies, 1, none, ph⟩ ∧
        ((sendingOn ph copies 1 true).port 3).currentEntry = some e) ∧
      (((sendingOn .deferring [0] 1 true).port 3).state = .forwarding ∧ ((sendingOn .deferring [0] 1 true).port 3).carrier = false) ∧
      (let s := sendingOn (.sending []) [0] 1 false
       let f : State :=
         { s with
           ports := s.ports.set 3 { s.port 3 with transit := [⟨.stored 8, dataHeader 0, 1#3⟩] }
           pool := { s.pool with frames := [(8, ⟨[8], 1⟩)] } }
       (f.port 3).currentEntry = some ⟨.stored 8, dataHeader 0, 1#3⟩ ∧ tableGet f.pool.frames 8 = some ⟨[8], 1⟩) := by decide +kernel

/-! ### Settle timer, orders, supervision -/

/-- A state with events on their way. -/
def carrying (s : State) (rs : List Raised) : State := { s with raised := rs }

/-- A state with segment 3's supervision context changed. -/
def supervised (s : State) (c : Supervision) : State := s.setSup 3 c

/-- A context with a window running. -/
def windowOf (mask : Nat) (st : SegState) : Supervision :=
  { resetSupervision with windowTimer := .running 0, windowState := st, mask := mask, health := 1023 }

theorem witness_HealthArithmetic : ((supervised office (windowOf 0 .forwarding)).sup 3).windowTimer ≠ .stopped ∧
    (1 ≤ (⟨0, 0, 0, 0, 1⟩ : WindowCounts).j) ∧ ((⟨0, 1, 0, 0, 0⟩ : WindowCounts).g + 0 + 0 = 0) ∧
    (0 < (⟨1, 1, 0, 0, 0⟩ : WindowCounts).g) ∧ (0 : Nat) < 1023 := by decide

/-! ### The Line Tester -/

theorem witness_TrimSearchFindsTheGreatestCode :
    (testing (testOf .trim)).tester.context = some (testOf .trim) ∧ (testOf .trim).stage = .trim ∧ (testOf .trim).accepted = 0 ∧
      (testOf .trim).bit = 5 ∧ (0 : Nat) < 52 := by decide

/-! ### Aging and the uplink -/

theorem witness_AgingTimerExpiry : ({ office with table := { office.table with agingTimer := .stopped } }).table.agingTimer = .stopped ∧
    (office.table.agingTimer ≠ .stopped ∧ office.table.wf = true) ∧
    (∀ x ∈ [0, 1, 9, 10], ∀ y ∈ [0, 1, 9, 10], (doubled x y).table.agingTimer ≠ .stopped ∧ (doubled x y).table.wf = true) := by
  decide +kernel

/-! ### Printing events -/

theorem witness_PrinterEvaluation :
    office.delivery.wf = true ∧ (∀ j ∈ office.intake.jobs, j.delivery ≠ .waiting) ∧ (∀ q ∈ office.delivery.printers, q.2.queue = []) ∧
      (∀ r ∈ office.raised, Raised.evaluationOf r = none) ∧
      (∀ r ∈ [Raised.stationChange 12, .stationChange 9, .jobEnded 15, .uplinkChange, .segmentChange 3],
        (carrying office [.jobChange 7 none, r]).raised = [.jobChange 7 none] ++ r :: []) ∧
      (∀ x ∈ [Raised.jobChange 7 none], Raised.evaluationOf x = none) ∧ ¬ office.named 12 ∧
      office.printerOf 9 = some (15, readyPrinter 9) := by decide +kernel

/-! ### What every step keeps -/

theorem witness_LinesKeepTheirForm : ∃ t, step (carrying { segIn 3 .settling with pending := [.settleTimerExpiry 3] } []) = .next t ∧
    (segIn 3 .settling).portsWf = true ∧ (segIn 3 .settling).supsWf = true ∧ (t.port 3).state = .forwarding :=
  ⟨_, rfl, by decide +kernel, by decide +kernel, by decide +kernel⟩

theorem witness_StationTableKeepsItsForm : ∃ t, step { office with pending := [.agingTimerExpiry] } = .next t ∧
    office.table.wf = true ∧ office.delivery.wf = true ∧ office.claimsWf = true :=
  ⟨_, rfl, by decide +kernel, by decide +kernel, by decide +kernel⟩

theorem witness_MemoryUplinkAndManagementKeepTheirForm : ∃ t, step { office with pending := [.uplinkDown] } = .next t ∧
    memWf office.pool.mem = true ∧ office.uplink.wf = true ∧ office.mgmt.wf = true :=
  ⟨_, rfl, by decide, by decide, by decide⟩

/-! ## Witnesses of the statements with several forms -/

/-- A test of segment 2 while segment 3 is ISOLATED with its pending flag set. -/
def testingWithPending (c : TestContext) : State :=
  let s := testing c
  { s with
    ports := s.ports.set 3 (portIn .isolated)
    tester := { s.tester with pendingFlags := s.tester.pendingFlags.set 3 true } }

theorem witness_DisableSegment :
    ((segIn 0 .disabled).takes 1 ∧ (segIn 0 .disabled).portsWf = true ∧ ((segIn 0 .disabled).port 0).state = .disabled) ∧
      (∀ st ∈ [SegState.settling, .forwarding, .isolated, .parked], (segIn 3 st).takes 255 ∧ (segIn 3 st).portsWf = true ∧
        ((segIn 3 st).port 3).state ≠ .disabled ∧ ((segIn 3 st).port 3).state ≠ .testing) ∧
      (∀ s ∈ [testing (testOf .quietCheck), testingWithPending (testOf .quietCheck)],
        s.takes 1 ∧ s.portsWf = true ∧ s.tester.context = some (testOf .quietCheck) ∧ (testOf .quietCheck).segment = 2) ∧
      ((testing (testOf .trim)).tester.pendingFlags.get 3 = false ∧ (testingWithPending (testOf .trim)).tester.pendingFlags.get 3 = true) := by
  decide +kernel

theorem witness_AbortLineTest :
    (State.reset.takes 1 ∧ State.reset.portsWf = true ∧ State.reset.tester.context.map TestContext.segment ≠ some 2) ∧
      (∀ s ∈ [testing (testOf .trim), testingWithPending (testOf .trim)],
        s.takes 1 ∧ s.portsWf = true ∧ s.tester.context.map TestContext.segment ≠ some 3 ∧ s.tester.context = some (testOf .trim)) := by
  decide +kernel

theorem witness_ReadingRequests_stations :
    (∀ n ∈ [(253 : Byte), 200, 201, 12, 5, 1, 254], n ≠ 0 ∧ n ≠ 255) ∧ 253 = office.table.gateway ∧
      ((∃ g ∈ office.delivery.groups, g.2.service = 200) ∧ (∀ g ∈ office.delivery.groups, g.2.service ≠ 201) ∧
        office.aliasOf 201 = some (31, ⟨201, 0x061A2B3C4D5E⟩)) ∧
      (∀ k ∈ [Known.empty, .active ⟨3, 0, 2⟩, .quiet ⟨0, 2, 0⟩, .duplicate ⟨0, 0, 0⟩ ⟨3, 1, 1⟩],
        let s := { office with table := office.table.setEntry 254 (stationOn k) }
        s.takes 1 ∧ ¬ s.claimed 254 ∧ (s.table.entry 254).known = k) ∧
      (15 < (16 : Byte).toNat ∧ office.printer 14 = none ∧ office.printer 15 = some (readyPrinter 9)) ∧
      ((withJob waitingJob).job 7 = some waitingJob ∧ (withJob waitingJob).job 65535 = none) := by decide +kernel

/-! ### Printers -/

theorem witness_SetPrinter : office.takes 1 ∧ office.delivery.wf = true ∧ (¬ (16 : Byte).toNat < 16 ∧ (15 : Byte).toNat < 16) ∧
    (253 = office.table.gateway ∧ (∃ g ∈ office.delivery.groups, g.2.service = 200) ∧
      (office.printerOf 9).map Prod.fst = some 15) ∧
    (let s := withHead .printing none [40, 41] 0 0 true
     s.takes 1 ∧ s.delivery.wf = true ∧ ∃ e ∈ s.printer 15, e.station ≠ 5 ∧ e.queue ≠ []) ∧
    (office.printer 14 = none ∧ (office.table.entry 12).known = .empty ∧ ∀ a ∈ office.table.aliases, a.2.number ≠ 12) ∧
    ((office.table.entry 5).known ≠ .empty ∧ (office.printerOf 5).isNone = true ∧ (office.printerOf 201).isNone = true ∧
      ∃ a ∈ office.table.aliases, a.2.number = 201) ∧
    (office.printer 15 = some (readyPrinter 9) ∧ (readyPrinter 9).station ≠ 5 ∧ (readyPrinter 9).queue = [] ∧
      ∀ j ∈ office.intake.jobs, j.delivery ≠ .waiting) ∧
    (office.printerState (readyPrinter 9) = .ready ∧ office.unreachable 9 = none) ∧
    (let s := withHead .printing none [40, 41] 0 0 true
     ∃ e ∈ s.printer 15, (s.headJob e).map Job.delivery = some .printing ∧ s.unreachable 9 = none ∧ e.found = s.printerState e ∧
       e.foundReason = none ∧ e.foundPause = e.pause) := by decide +kernel

/-- A printer's HELD pause reason alone. -/
def heldPause : PauseSet := { PauseSet.clear with held := true }

/-- The head of `withHead` under a pause reason, found PAUSED. -/
def pausedHead (pause : PauseSet) (chain : List Nat) (delivered : Nat) (offered : Bool) : State :=
  let s := withHead .held none chain delivered 0 true
  { s with
    delivery := { s.delivery with printers := s.delivery.printers.map fun q => (q.1, { q.2 with
      pause := pause
      found := .paused
      foundPause := pause }) }
    intake := { s.intake with jobs := s.intake.jobs.map fun j => { j with blockOffered := offered } } }

theorem witness_HoldReleaseAndClearPrinter :
    (office.takes 1 ∧ 15 < (16 : Byte).toNat ∧ office.printer 14 = none ∧ office.printer 15 = some (readyPrinter 9) ∧
      (readyPrinter 9).queue = [] ∧ (∀ j ∈ office.intake.jobs, j.delivery ≠ .waiting)) ∧
    ({ PauseSet.clear with held := true } ≠ (readyPrinter 9).pause ∧
      { PauseSet.clear with held := false, stopped := false } = (readyPrinter 9).pause) ∧
    (∀ n ∈ [0, 256],
      let s := withHead .printing none [40, 41] n 0 true
      let j := { waitingJob with delivery := .printing, printer := some 15, delivered := n }
      s.takes 1 ∧ s.job 7 = some j ∧ s.unreachable 9 = none ∧ s.rebinds j = true ∧
        ∃ e ∈ s.printer 15, e.pause.held = false ∧ e.queue = [7] ∧ (s.headJob e).map Job.delivery = some .printing) ∧
    (∀ n ∈ [0, 256], ∀ b : Bool,
      let s := pausedHead heldPause [40] n b
      s.takes 1 ∧ s.jobsWf = true ∧ s.unreachable 9 = none ∧ (s.job 7).map (fun j => (j.delivery, j.delivered, j.blockOffered, j.printer)) =
        some (.held, n, b, some 15) ∧ s.routeTo 9 = some (.segment 3 1#3) ∧ (s.port 3).service.length < 8 ∧
        ∃ e ∈ s.printer 15, e.pause.held = true ∧ e.queue = [7]) ∧
    (let s := withHead .queued none [40] 0 0 true
     (s.job 7).map Job.delivery = some .queued ∧ (s.group 7).map Group.members = some [15]) :=
  ⟨by decide +kernel, by decide, by decide +kernel, by decide +kernel, by decide +kernel⟩

/-! ### Frames -/

/-- What the end of a good frame on a FORWARDING segment needs to come to the Forwarding Engine. -/
theorem arrives_heard {s u : State} {i : SegIx} {x : SyncIx} {m : Nat} {h : Header} {p : List Byte}
    (forwarding : (s.port i).state = .forwarding) (carrier : (s.port i).receiver.lineCarrier = true)
    (reception : (s.port i).receiver.reception = some ⟨.accepted x m, false, false⟩) (length : h.len.toNat = p.length)
    (short : p.length ≤ 512) (learned : (s.goodCounted i m).learned h.src i x u) :
    s.arrives (.activityEnd i (trunkBytes h p)) (.segment i) (.segment i (BitVec.twoPow 3 x.val)) h p u :=
  .inl ⟨i, x, rfl, rfl, _, m, rfl, length, short, forwarding, carrier, reception, rfl, rfl, rfl, learned⟩

/-- A frame of an ACTIVE station on its own segment is learned by a refresh. -/
theorem learned_refresh {s : State} {n : Byte} {i : SegIx} {x : SyncIx} {a : Side} (zero : n ≠ 0) (top : n ≠ 255)
    (free : ¬ s.claimed n) (seg : a.segment = i) (known : (s.table.entry n).known = .active a) :
    ∃ u, s.learned n i x u := ⟨_, zero, top, free, .inr (.inl ⟨a, seg, known, rfl⟩)⟩

theorem witness_ActivityEnd :
    (office.port 0).receiver.lineCarrier = false ∧ ((hearing office none).port 0).receiver.lineCarrier = true ∧
      (∀ r ∈ [(⟨.accepted 0 0, true, false⟩ : Reception), ⟨.accepted 0 0, false, true⟩, ⟨.awaited, false, false⟩, ⟨.rejected, false, false⟩,
        ⟨.accepted 2 3, false, false⟩], ((hearing office (some r)).port 0).receiver.lineCarrier = true ∧
        ((hearing office (some r)).port 0).receiver.reception = some r) ∧
      (List.replicate 7 (0 : Byte)).length < 8 ∧
      (((hearing (segIn 0 .isolated) (some ⟨.accepted 0 1, false, false⟩)).port 0).state = .isolated ∧
        (dataHeader 0).len.toNat = ([] : List Byte).length ∧ (dataHeader 512).len.toNat = (List.replicate 512 (0 : Byte)).length) ∧
      (((hearingGood office).port 0).state = .forwarding ∧ 253 = office.table.gateway ∧
        (∃ g ∈ office.delivery.groups, g.2.service = 200) ∧ (∀ g ∈ office.delivery.groups, g.2.service ≠ 201) ∧
        ∃ a ∈ office.table.aliases, a.2.number = 201) ∧
      (let s := { office with table := office.table.setEntry 12 { stationOn (.quiet ⟨3, 4, 1⟩) with pinned := true } }
       ¬ s.claimed 12 ∧ (s.table.entry 12).known = .quiet ⟨3, 4, 1⟩ ∧ (s.table.entry 12).pinned = true) := by
  decide +kernel

/-- Segment 0 hears a good frame of station 12, known so, with a move hold of 3 units. -/
def known12 (k : Known) : State :=
  { hearingGood office with table := { office.table.setEntry 12 (stationOn k) with moveHold := 3 } }

theorem witness_ActivityEnd_learned :
    (∀ k ∈ [Known.empty, .active ⟨0, 1, 0⟩, .quiet ⟨0, 2, 0⟩, .quiet ⟨3, 2, 0⟩, .active ⟨3, 3, 0⟩, .active ⟨3, 2, 0⟩,
        .duplicate ⟨0, 1, 0⟩ ⟨3, 0, 0⟩, .duplicate ⟨3, 1, 0⟩ ⟨0, 0, 0⟩, .duplicate ⟨3, 1, 0⟩ ⟨1, 0, 0⟩, .duplicate ⟨3, 0, 0⟩ ⟨1, 0, 0⟩],
      ((known12 k).goodCounted 0 0).table.entry 12 = stationOn k) ∧
    ∀ k ∈ [Known.empty, .active ⟨0, 1, 0⟩, .quiet ⟨0, 2, 0⟩, .quiet ⟨3, 2, 0⟩, .active ⟨3, 3, 0⟩, .active ⟨3, 2, 0⟩,
        .duplicate ⟨0, 1, 0⟩ ⟨3, 0, 0⟩, .duplicate ⟨3, 1, 0⟩ ⟨0, 0, 0⟩, .duplicate ⟨3, 1, 0⟩ ⟨1, 0, 0⟩, .duplicate ⟨3, 0, 0⟩ ⟨1, 0, 0⟩],
      ∃ u, ((known12 k).goodCounted 0 0).learned 12 0 0 u := by
  have free : ∀ k, ¬ ((known12 k).goodCounted 0 0).claimed 12 := fun k => by
    change ¬ office.claimed 12
    decide
  have zero : (12 : Byte) ≠ 0 := by decide
  have top : (12 : Byte) ≠ 255 := by decide
  refine ⟨by decide +kernel, ?_⟩
  simp only [List.mem_cons, List.not_mem_nil, or_false, forall_eq_or_imp, forall_eq]
  exact ⟨⟨_, zero, top, free _, .inl ⟨rfl, false, by decide, rfl⟩⟩,
    ⟨_, zero, top, free _, .inr (.inl ⟨⟨0, 1, 0⟩, rfl, rfl, rfl⟩)⟩,
    ⟨_, zero, top, free _, .inr (.inr (.inl ⟨⟨0, 2, 0⟩, rfl, rfl, rfl⟩))⟩,
    ⟨_, zero, top, free _, .inr (.inr (.inr (.inl ⟨⟨3, 2, 0⟩, by decide, rfl, .inl rfl, rfl⟩)))⟩,
    ⟨_, zero, top, free _, .inr (.inr (.inr (.inl ⟨⟨3, 3, 0⟩, by decide, rfl, .inr ⟨rfl, by decide⟩, rfl⟩)))⟩,
    ⟨_, zero, top, free _, .inr (.inr (.inr (.inr (.inl ⟨⟨3, 2, 0⟩, by decide, rfl, rfl, by decide, rfl⟩))))⟩,
    ⟨_, zero, top, free _, .inr (.inr (.inr (.inr (.inr (.inl ⟨⟨0, 1, 0⟩, ⟨3, 0, 0⟩, rfl, rfl, rfl⟩)))))⟩,
    ⟨_, zero, top, free _, .inr (.inr (.inr (.inr (.inr (.inr (.inl ⟨⟨3, 1, 0⟩, ⟨0, 0, 0⟩, rfl, by decide, rfl, rfl⟩))))))⟩,
    ⟨_, zero, top, free _, .inr (.inr (.inr (.inr (.inr (.inr (.inr (.inl
      ⟨⟨3, 1, 0⟩, ⟨1, 0, 0⟩, rfl, by decide, by decide, by decide, rfl⟩)))))))⟩,
    ⟨_, zero, top, free _, .inr (.inr (.inr (.inr (.inr (.inr (.inr (.inr
      ⟨⟨3, 0, 0⟩, ⟨1, 0, 0⟩, rfl, by decide, by decide, by decide, rfl⟩)))))))⟩⟩

/-- A frame of station 5 comes to the Forwarding Engine from segment 0, whatever its destination, type and control. -/
theorem arrives_from_5 (dst typ ctl : Byte) :
    ∃ c back base, (hearingGood office).arrives c (.segment 0) back ⟨dst, 5, typ, ctl, 0⟩ [] base := by
  obtain ⟨u, hu⟩ := learned_refresh (s := (hearingGood office).goodCounted 0 0) (n := 5) (i := 0) (x := 0) (a := ⟨0, 1, 0⟩)
    (by decide) (by decide) (by decide) rfl rfl
  exact ⟨_, _, u, arrives_heard rfl rfl rfl (by simp) (by simp) hu⟩

/-- A frame of alias 31 comes to the Forwarding Engine from the uplink, whatever its destination, type and control. -/
theorem arrives_from_uplink (dst typ ctl : Byte) :
    ∃ c base, office.arrives c .uplink (.uplink 0x061A2B3C4D5E) ⟨dst, 201, typ, ctl, 0⟩ [] base :=
  ⟨_, _, .inr ⟨_, rfl, rfl, 0xFFFFFFFFFFFF, 0, (31, ⟨201, 0x061A2B3C4D5E⟩), [], _, rfl, .inl rfl, rfl, by simp, by simp, rfl, .inl rfl,
    by decide, rfl, rfl⟩⟩

theorem witness_FrameForwarded :
    let s := hearing office (some ⟨.accepted 0 2, false, false⟩)
    s.pagesWf = true ∧ (s.port 0).state = .forwarding ∧ (s.port 0).receiver.lineCarrier = true ∧
      (s.port 0).receiver.marked = false ∧ (s.port 0).receiver.reception = some ⟨.accepted 0 2, false, false⟩ ∧
      (∀ n ∈ [0, 512], (dataHeader (BitVec.ofNat 16 n)).len.toNat = (List.replicate n (0 : Byte)).length ∧
        (6 + n + 255) / 256 ≤ s.freePages) ∧
      ¬ s.claimed 5 ∧ (s.table.entry 5).known = .active ⟨0, 1, 0⟩ ∧ ¬ s.claimed 9 ∧
      (s.table.entry 9).known = .active ⟨3, 0, 0⟩ ∧ (s.port 3).state = .forwarding ∧ (s.port 3).transit.length < 32 := by decide +kernel

/-- The destinations of R107 to R113 as the office has them; what base a frame leaves has the same tables, printers and uplink. -/
theorem witness_FrameForwarded_destinations :
    ((hearingGood office).pagesWf = true ∧ office.pagesWf = true ∧ 253 = office.table.gateway ∧
      (∃ g ∈ office.delivery.groups, g.2.service = 200) ∧ office.named 9 ∧ (∀ g ∈ office.delivery.groups, g.2.service ≠ 9)) ∧
      (office.aliasOf 201 = some (31, ⟨201, 0x061A2B3C4D5E⟩) ∧ ¬ office.named 201) ∧
      ((office.table.entry 12).known = .empty ∧ (office.table.entry 9).known = .active ⟨3, 0, 0⟩ ∧
        ((doubled 1 1).table.entry 12).known = .duplicate ⟨0, 1, 0⟩ ⟨3, 1, 1⟩) ∧
      (office.hasRoom false (.segment 3 1#3) ∧ office.hasRoom true (.segment 0 1#3) ∧
        ¬ office.hasRoom false (.segment 1 1#3) ∧ ¬ State.reset.hasRoom true (.uplink 0) ∧ office.hasRoom true (.uplink 0x061A2B3C4D5E)) ∧
      (1 ≤ office.freePages ∧ office.uplink.up = true ∧ State.reset.uplink.up = false) :=
  ⟨by decide +kernel, by decide, by decide +kernel,
    ⟨⟨rfl, by decide⟩, ⟨rfl, by decide⟩, by simp [State.hasRoom]; decide, by simp [State.hasRoom]; decide, ⟨rfl, by decide⟩⟩, by decide +kernel⟩

theorem witness_PrintBlockStored :
    let s := hearingGood office
    let t := { s with intake := { s.intake with jobs := [openJob 300 [40, 41]] } }
    let u := { s with intake := { s.intake with jobs := [{ openJob 300 [40, 41] with delivery := .printing, printer := some 15 }] } }
    (∀ x ∈ [s, t, u], x.pagesWf = true ∧ (x.port 0).state = .forwarding ∧ (x.port 0).receiver.lineCarrier = true ∧
      (x.port 0).receiver.reception = some ⟨.accepted 0 0, false, false⟩ ∧ ¬ x.claimed 5 ∧
      (x.table.entry 5).known = .active ⟨0, 1, 0⟩ ∧ 200 ≠ x.table.gateway ∧ (x.groupOf 200).map Prod.fst = some 7 ∧
      (x.port 0).service.length < 8) ∧
      (s.intake.jobs = [] ∧ 2 ≤ s.pool.quota ∧ 2 + s.pool.reserve ≤ s.freePages) ∧
      ((∀ j ∈ t.intake.jobs, j.source = 5 ∧ j.origin = .segment 0 ∧ j.group = some 7 ∧ j.isOpen = true ∧ j.delivery = .waiting ∧
          j.printer = none) ∧
        (∀ j ∈ u.intake.jobs, j.delivery = .printing ∧ j.printer = some 15) ∧ u.unreachable 9 = none) ∧
      (((0x84 : Byte).extractLsb' 0 4 = (openJob 300 [40]).lastSeq ∧ (0x84 : Byte).getLsbD 7 = (openJob 300 [40]).lastFirst) ∧
        ((0x85 : Byte).extractLsb' 0 4 ≠ (openJob 300 [40]).lastSeq ∧ (0x85 : Byte).getLsbD 7 = true) ∧
        ((0x05 : Byte).extractLsb' 0 4 = (openJob 300 [40, 41]).expected ∧ (0x05 : Byte).getLsbD 7 = false) ∧
        ((0x06 : Byte).extractLsb' 0 4 ≠ (openJob 300 [40, 41]).expected ∧ (0x06 : Byte).getLsbD 7 = false)) ∧
      (4294967295 < (openJob 4294967295 [40]).received + 1 ∧ 300 + 512 ≤ 4294967295 ∧
        (openJob 300 [40, 41]).chain.getLast? = some 41 ∧ 2 + 2 ≤ t.pool.quota ∧ 2 + t.pool.reserve ≤ t.freePages) :=
  ⟨by decide +kernel, by decide +kernel, by decide +kernel, by decide +kernel, by decide +kernel⟩

/-! ### Segments -/

theorem witness_SettleAndOrders :
    (∀ st ∈ [SegState.settling, .forwarding, .isolated, .parked, .disabled], (segIn 3 st).portsWf = true ∧
      ((segIn 3 st).port 3).state = st) ∧
      (let s := supervised (segIn 3 .settling) { resetSupervision with live := ⟨true, false, false⟩ }
       s.portsWf = true ∧ (s.sup 3).live.jabber = true) ∧
      (∀ b : Bool, [Raised.uplinkChange] ++ .isolationOrder 3 .health b :: [.rejoinOrder 3] =
          (carrying office [.uplinkChange, .isolationOrder 3 .health b, .rejoinOrder 3]).raised ∧
        (carrying office [.uplinkChange, .isolationOrder 3 .health b, .rejoinOrder 3]).portsWf = true ∧
        .rejoinOrder 3 ∉ [Raised.uplinkChange, .isolationOrder 3 .health b]) ∧
      (∀ r ∈ [Raised.uplinkChange], ∀ (d : Condition) (b : Bool), r ≠ .isolationOrder 3 d b) ∧
      ((∀ (c : Condition) (b : Bool), .isolationOrder 3 c b ∉ (carrying (segIn 3 .isolated) [.rejoinOrder 3]).raised) ∧
        .rejoinOrder 3 ∉ office.raised) := by
  refine ⟨by decide +kernel, by decide +kernel, by decide +kernel, by simp, ?_, by decide⟩
  intro c b; cases c <;> cases b <;> decide

theorem witness_FlapsAndAutomaticTests :
    (∀ b k : Bool, (carrying office [.orderResult 3 b .jabber k]).raised = [] ++ .orderResult 3 b .jabber k :: []) ∧
      ((supervised office { resetSupervision with flaps := 7, flapTimer := .running 0 }).sup 3).flapTimer ≠ .stopped ∧
      (office.sup 3).flapTimer = .stopped ∧
      ((carrying office [.leftIsolated 3]).raised = [] ++ .leftIsolated 3 :: []) ∧
      ((carrying office [.uplinkChange, .autoTest 3]).raised = [.uplinkChange] ++ .autoTest 3 :: [] ∧
        .autoTest 3 ∉ [Raised.uplinkChange] ∧ (office.port 3).state ≠ .isolated) ∧
      ((segIn 3 .isolated).portsWf = true ∧ ((segIn 3 .isolated).port 3).state = .isolated ∧
        (segIn 3 .isolated).tester.context = none) ∧
      (((testingWithPending (testOf .trim)).port 3).state = .isolated ∧ (testingWithPending (testOf .trim)).tester.context ≠ none) := by
  decide +kernel

theorem witness_SupervisorStateEntry :
    (∀ new ∈ [SegState.settling, .forwarding, .testing, .parked, .disabled, .isolated],
      ∀ old ∈ [SegState.forwarding, .settling, .testing, .parked], ∀ reason ∈ [none, some IsoReason.requested, some (.fault .jabber)],
        (carrying office [.uplinkChange, .stateEntry 3 old new reason]).raised =
          [.uplinkChange] ++ .stateEntry 3 old new reason :: []) ∧
      (∀ r ∈ [Raised.uplinkChange], ∀ x y z, r ≠ .stateEntry 3 x y z) ∧ (office.sup 3).live = ⟨false, false, false⟩ ∧
      (∀ b : Bool, let s := supervised office { resetSupervision with live := ⟨b, false, false⟩ }
       (s.sup 3).live = ⟨b, false, false⟩ ∧ (s.sup 3).latched = ⟨false, false, false⟩) := by
  refine ⟨by decide +kernel, by simp, by decide, by decide⟩

theorem witness_WindowExpiry : (office.sup 3).windowTimer = .stopped ∧
    (∀ n ∈ [0, 1, 2, 8], ∀ st ∈ [SegState.forwarding, .isolated], ((supervised office (windowOf n st)).sup 3).windowTimer ≠ .stopped ∧
      ((supervised office (windowOf n st)).sup 3).mask = n) ∧
    (∀ k, ((supervised office (windowOf 1 .forwarding)).sup 3).live.get k = true →
      ((supervised office (windowOf 1 .forwarding)).sup 3).latched.get k = true) ∧
    (let c := { windowOf 1 .forwarding with live := ⟨true, true, false⟩, latched := ⟨true, false, false⟩ }
     [Condition.jabber, .txBlocked, .health].filter (fun k => c.live.get k && !c.latched.get k) = [.txBlocked]) := by
  refine ⟨by decide, by decide +kernel, ?_, by decide⟩
  intro k; cases k <;> decide

theorem witness_QuietChecks :
    (∀ n ∈ [1, 3, 4], ∀ stage ∈ [TestStage.quietCheck, .ranging, .trim], ∀ w ∈ [Timer.stopped, .running 0],
      let c : TestContext := { testOf stage with attempts := n, wait := w }
      ∀ s ∈ [testing c, testingWithPending c],
        s.tester.context = some c ∧ s.portsWf = true ∧ c.stage = stage ∧ c.wait = w ∧ c.attempts = n) ∧
      ((testing (testOf .quietCheck)).port 2).carrier = false ∧
      (let s := (testing (testOf .quietCheck)).setPort 2 { portIn .testing with receiver := resetReceiver true }
       s.tester.context = some (testOf .quietCheck) ∧ (s.port 2).carrier = true) := by decide +kernel

theorem witness_RangingAndTrim :
    (∀ stage ∈ [TestStage.quietCheck, .ranging, .trim], ∀ b ∈ [0, 5], ∀ r : Bool,
      let c : TestContext := { testOf stage with bit := b, trimRequested := r }
      ∀ s ∈ [testing c, testingWithPending c], s.tester.context = some c ∧ s.portsWf = true) ∧
      (let small : Excursion → Bool := fun x => decide (10 * x.peak < 10 ∨ 4095 ≤ x.count)
       small ⟨4095, 10, false⟩ = true ∧ small ⟨4094, 0, false⟩ = true ∧ small ⟨4094, 1, false⟩ = false ∧ small ⟨0, 1, true⟩ = false) ∧
      (let line : List Excursion := [⟨3, 0, true⟩, ⟨4094, 1, false⟩, ⟨4095, 9, false⟩]
       line = [⟨3, 0, true⟩] ++ ⟨4094, 1, false⟩ :: [⟨4095, 9, false⟩] ∧ (10 ≤ 10 * 1 ∧ 2 * 1 < 10)) ∧
      (let m : Excursion := ⟨0, 5, true⟩
       m.count ≤ 4094 ∧ 10 ≤ 10 * m.peak ∧ 10 ≤ 2 * m.peak) ∧
      (2400 * 1 ≤ 75 * (32#6).toNat ∧ 2400 * 1 > 74 * (32#6).toNat) := by decide +kernel

/-! ### The uplink -/

theorem witness_UplinkEvents :
    let e : QEntry Mac := ⟨.stored 8, dataHeader 0, 0x061A2B3C4D5E⟩
    let u : Bool → State := fun b => { office with
      uplink := { office.uplink with service := if b then [e] else [], transit := [e] }
      pool := { office.pool with frames := [(8, ⟨[8], if b then 2 else 1⟩)] } }
    let sent : Bool → State := fun b => { u b with uplink := { (u b).uplink with current := some ⟨b, []⟩ } }
    State.reset.uplink.up = false ∧ office.uplink.up = true ∧ (office.uplink.service = [] ∧ office.uplink.transit = []) ∧
      (∀ b : Bool, (u b).uplink.up = true ∧ (u b).refsWf = true) ∧
      ((u true).uplink.current = none ∧ (u true).uplink.service.head? = some e) ∧
      ((u false).uplink.current = none ∧ (u false).uplink.service = [] ∧ (u false).uplink.transit.head? = some e) ∧
      (∀ b : Bool, (sent b).uplink.current = some ⟨b, []⟩ ∧
        (if b then (sent b).uplink.service else (sent b).uplink.transit).head? = some e ∧
        tableGet (sent b).pool.frames 8 = some ⟨[8], if b then 2 else 1⟩) := by decide +kernel

theorem witness_TunnelFrameReceived :
    let m : Mac := 0x0A3170000009
    let sender : Mac := 0x061A2B3C4D5E
    (State.reset.uplink.up = false ∧ ([0, 0, 0, 0, 0] : List Byte).length < 6) ∧
      ((0x0A3171000009 : Mac) ≠ 0xFFFFFFFFFFFF ∧ (0x0A3171000009 : Mac).extractLsb' 8 40 ≠ office.table.proxyBase.extractLsb' 8 40) ∧
      (office.uplink.up = true ∧ m.extractLsb' 8 40 = office.table.proxyBase.extractLsb' 8 40) ∧
      ((macBytes m ++ [0, 0, 0, 0]).drop 6 ≠ fcsBytes ((macBytes m ++ [0, 0, 0, 0]).take 6)) ∧
      ((List.replicate 7 (0 : Byte)).length < 8 ∧ (List.replicate 5 (0 : Byte)).length < 6) ∧
      ((0x0800 : Half) ≠ office.uplink.etherType ∧ ([0x02] : List Byte).head? ≠ some 0x01 ∧ ([] : List Byte).head? ≠ some 0x01 ∧
        0x9A2C = office.uplink.etherType) ∧
      (let bare : Nat → List Byte := fun n => macBytes m ++ macBytes sender ++ nat2 0x9A2C ++ [0x01] ++ (dataHeader 0).bytes ++
         List.replicate n 0
       (bare 39).length = 60 ∧ (bare 40).length = 61 ∧ (dataHeader 0).len.toNat < 40) ∧
      (512 < (dataHeader 513).len.toNat ∧ ([] : List Byte).length < (dataHeader 1).len.toNat) ∧
      (∀ a ∈ office.table.aliases, a.2.mac ≠ 0x020000000001) ∧
      (office.pagesWf = true ∧ office.aliasOfMac sender = some (31, ⟨201, sender⟩) ∧ ¬ office.claimed 9 ∧
        (office.table.entry 9).known = .active ⟨3, 0, 0⟩ ∧ (office.port 3).state = .forwarding ∧
        (office.port 3).transit.length < 32 ∧ (6 + 512 + 255) / 256 ≤ office.freePages) ∧
      (∀ n ∈ [0, 512], (dataHeader (BitVec.ofNat 16 n)).len.toNat = n) := by decide +kernel

/-! ### Printing events -/

/-- The office with a waiting job whose change is on its way, and a group as given. -/
def changed (j : Job) (balanced : Bool) (threshold : Nat) : State :=
  let s := carrying (withJob j) [.uplinkChange, .jobChange 7 (some 7)]
  { s with
    pool := { s.pool with quota := 8 }
    delivery := { s.delivery with
      groups := [(7, { service := 200, balanced := balanced, threshold := threshold, members := [15], rebind := true })] } }

theorem witness_JobChangeTaken :
    (∀ n g, Raised.jobChange n g ∉ office.raised) ∧
      ((changed waitingJob false 0).raised = [.uplinkChange] ++ .jobChange 7 (some 7) :: [] ∧
        ∀ r ∈ [Raised.uplinkChange], ∀ m g, r ≠ .jobChange m g) ∧
      ((carrying office [.jobChange 7 none]).raised = [] ++ .jobChange 7 none :: [] ∧ office.job 7 = none) ∧
      (∀ b : Bool, ∀ threshold ∈ [0, 1, 8],
        let s := changed waitingJob b threshold
        s.job 7 = some waitingJob ∧ (s.group 7).map Group.balanced = some b ∧ s.waitList 7 = [waitingJob] ∧
          s.printer 15 = some (readyPrinter 9) ∧ s.unreachable 9 = none ∧ s.routeTo 9 = some (.segment 3 1#3) ∧
          (s.port 3).state = .forwarding ∧ (s.port 3).service.length < 8) ∧
      (let open_ : Job := { waitingJob with isOpen := true, received := 100, chain := [40] }
       (changed open_ false 1).waitList 7 = [open_] ∧ max 1 (1 * (changed open_ false 1).pool.quota / 8) ≤ open_.chain.length ∧
         open_.hasBlock = false ∧ open_.chain.length < max 1 (8 * (changed open_ false 8).pool.quota / 8)) ∧
      (let e : Printer := { readyPrinter 9 with queue := [6], found := .busy }
       let head : Job := { waitingJob with number := 6, chain := [50], delivery := .printing, printer := some 15 }
       let s := changed waitingJob true 0
       let s := { s with
         intake := { s.intake with jobs := [head, waitingJob] }
         delivery := { s.delivery with printers := [(15, e)] } }
       s.waitList 7 = [waitingJob] ∧ s.printer 15 = some e ∧ s.job 6 = some head ∧ waitingJob.urgent = true) ∧
      (let s := carrying (withHead .printing none [40, 41] 0 0 true) [.jobChange 7 (some 7)]
       (s.job 7).map Job.printer = some (some 15) ∧ (s.job 7).map Job.hasBlock = some true ∧ s.unreachable 9 = none ∧
         ∃ e ∈ s.printer 15, e.queue.head? = some 7 ∧ e.flight ≠ none ∧ e.pause = PauseSet.clear ∧ e.found = .busy) := by
  refine ⟨fun n g h => ?_, ⟨rfl, by simp⟩, by decide +kernel, by decide +kernel, by decide +kernel, by decide +kernel, by decide +kernel⟩
  cases h

/-- R153 to R156: an OPEN job of one page that is not full is bound at its threshold, starts, and sends nothing. -/
theorem test_open_job_bound :
    let t := after .jobChangeTaken (changed { waitingJob with isOpen := true, received := 100, chain := [40] } false 1)
    (t.printer 15).map (fun e => (e.queue, e.flight, e.found)) = some ([7], none, .busy) ∧
      (t.job 7).map Job.delivery = some .printing ∧ (t.port 3).service = [] := by decide +kernel

theorem witness_PrinterTimers :
    let job : DeliveryState → Option JobOutcome → List Nat → Nat → Job := fun d o chain n =>
      { waitingJob with delivery := d, printer := some 15, pendingOutcome := o, chain := chain, delivered := n }
    (readyPrinter 9).blockTimer = .stopped ∧ (readyPrinter 9).retryTimer = .stopped ∧ (readyPrinter 9).endTimer = .stopped ∧
      (∀ r ∈ [0, 2, 3], ∀ n ∈ [0, 1],
        let s := withHead .printing none [40] n r true
        s.job 7 = some (job .printing none [40] n) ∧ s.rebinds (job .printing none [40] n) = true ∧
          (∃ e ∈ s.printer 15, e.queue = [7] ∧ e.blockTimer ≠ .stopped ∧ e.retryTimer ≠ .stopped ∧ e.resends = r ∧ e.flight ≠ none ∧
            e.pause = PauseSet.clear ∧ e.found = .busy ∧ e.foundReason = none ∧ e.foundPause = PauseSet.clear ∧
            s.unreachable e.station = none ∧ s.routeTo e.station = some (.segment 3 1#3)) ∧
          (∀ k ∈ s.intake.jobs, k.delivery ≠ .waiting) ∧ (s.port 3).state = .forwarding ∧ (s.port 3).service.length < 8) ∧
      ((office.group 7).map Group.rebind = some true ∧ (office.group 7).map Group.members = some [15] ∧
        (∀ i, (office.port i).service = []) ∧ office.uplink.service = []) ∧
      (∀ o ∈ [none, some JobOutcome.cancelled],
        let s := withHead .ending o [] 256 0 true
        s.job 7 = some (job .ending o [] 256) ∧ (job .ending o [] 256).chain = [] ∧ o ≠ some .printed ∧
          ∃ e ∈ s.printer 15, e.queue = [7] ∧ e.endTimer ≠ .stopped ∧ e.found = .busy) := by decide +kernel

/-- The head of `pausedHead` with its block still in flight and both its timers running. -/
def heldFlight (pause : PauseSet) : State :=
  let s := pausedHead pause [40, 41] 256 true
  let f : Flight :=
    { job := 7, seq := 0, first := false, last := false, urgent := false, count := 44, page := some 40, outstanding := true }
  { s with delivery := { s.delivery with printers := s.delivery.printers.map fun q => (q.1, { q.2 with
      flight := some f
      blockTimer := .running 0
      retryTimer := .running 0 }) } }

theorem witness_PrinterTimers_held :
    let s := heldFlight heldPause
    (∃ e ∈ s.printer 15, e.queue = [7] ∧ e.flight ≠ none ∧ e.pause ≠ PauseSet.clear ∧ e.blockTimer ≠ .stopped ∧
      e.retryTimer ≠ .stopped ∧ s.unreachable e.station = none ∧ e.found = .paused ∧ e.foundReason = none ∧ e.foundPause = e.pause) ∧
      (s.job 7).map (fun j => (j.delivery, j.printer, decide (0 < j.delivered))) = some (.held, some 15, true) ∧
      ∀ k ∈ s.intake.jobs, k.delivery ≠ .waiting := by decide +kernel

/-- An answer of station 9 arrives from segment 3, whatever the state of printer 15 and its job. -/
theorem arrives_from_9 (s : State) (typ ctl : Byte) (table : s.table = office.table) (ports : s.ports = office.ports)
    (delivery : s.delivery.groups = office.delivery.groups) :
    ∃ c back base, (hearingGood s 3).arrives c (.segment 3) back ⟨253, 9, typ, ctl, 0⟩ [] base := by
  obtain ⟨u, hu⟩ := learned_refresh (s := (hearingGood s 3).goodCounted 3 0) (n := 9) (i := 3) (x := 0) (a := ⟨3, 0, 0⟩)
    (by decide) (by decide)
    (by
      simp only [State.claimed, State.goodCounted, hearingGood, hearing, table, delivery]
      decide) rfl
    (by
      simp only [State.goodCounted, hearingGood, hearing, table]
      decide)
  refine ⟨_, _, u, arrives_heard ?_ ?_ ?_ (by simp) (by simp) hu⟩ <;>
    simp only [hearingGood, hearing, State.port, ports] <;> rfl

/-- What the answers of station 9 meet: a block in flight, answered as its control says; a head that is PRINTING, ENDING, or HELD
under pause reasons that an answer takes away or leaves. -/
theorem witness_PrinterTimers_answers :
    253 = office.table.gateway ∧ ¬ office.named 12 ∧ office.named 9 ∧
      (∀ r ∈ [0, 2, 3], ∀ chain ∈ [[40], [40, 41], [40, 41, 42]],
        let s := withHead .printing none chain 0 r true
        s.table = office.table ∧ s.ports = office.ports ∧ s.delivery.groups = office.delivery.groups ∧
          (s.printerOf 9).map Prod.fst = some 15 ∧ s.unreachable 9 = none ∧
          ∃ e ∈ s.printer 15, e.flight.map (fun f => (f.outstanding, f.seq, f.last)) = some (true, 0, false) ∧ e.resends = r) ∧
      (((0x00 : Byte).extractLsb' 4 2, (0x10 : Byte).extractLsb' 4 2, (0x20 : Byte).extractLsb' 4 2, (0x30 : Byte).extractLsb' 4 2) =
        ((0 : BitVec 2), (1 : BitVec 2), (2 : BitVec 2), (3 : BitVec 2))) ∧
      (let s := withHead .ending (some .cancelled) [] 256 0 true
       (s.job 7).map (fun j => (j.delivery, j.chain)) = some (.ending, []) ∧ ∃ e ∈ s.printer 15, e.found = .busy) ∧
      (∀ pause ∈ [heldPause, { heldPause with offline := true }, { PauseSet.clear with offline := true },
          { PauseSet.clear with noResponse := true }],
        let s := pausedHead pause [40] 256 true
        pause ≠ PauseSet.clear ∧ (s.job 7).map (fun j => (j.delivery, j.hasBlock)) = some (.held, true) ∧
          ∃ e ∈ s.printer 15, e.found = .paused ∧ e.flight = none ∧ e.pause = pause) ∧
      (let s := heldFlight heldPause
       (s.job 7).map Job.delivery = some .held ∧ ∃ e ∈ s.printer 15, e.flight.map (fun f => (f.outstanding, f.last)) = some (true, false)) :=
  ⟨by decide, by decide, by decide, by decide +kernel, by decide, by decide +kernel, by decide +kernel, by decide +kernel⟩

theorem witness_PagesAndJobsKeepTheirForm : ∃ t, step { withJob waitingJob with pending := [.cancelJob 1 7] } = .next t ∧
    ((withJob waitingJob).pagesWf = true ∧ (withJob waitingJob).jobsWf = true ∧ (withJob waitingJob).refsWf = true) ∧
    t.freePages = 1024 := ⟨_, rfl, by decide +kernel, by decide +kernel⟩

/-- A stored frame that waits on both queues of the uplink. -/
theorem witness_PagesAndJobsKeepTheirForm_shared :
    let e : QEntry Mac := ⟨.stored 8, dataHeader 0, 0x061A2B3C4D5E⟩
    let s := { office with
      uplink := { office.uplink with service := [e], transit := [e] }
      pool := { office.pool with frames := [(8, ⟨[8], 2⟩)] } }
    ∃ t, step { s with pending := [.uplinkDown] } = .next t ∧ (s.pagesWf = true ∧ s.refsWf = true) ∧ t.pool.frames = [] :=
  ⟨_, rfl, by decide +kernel, by decide +kernel⟩

/-! ### Evaluated printers -/

/-- The entry of printer 15, and the job its head is. -/
def entry15 (s : State) : Printer := (s.printer 15).getD (readyPrinter 9)
def head15 (s : State) : Job := (s.headJob (entry15 s)).getD waitingJob

/-- A QUEUED job 8 behind printer 15's head, and events on their way. -/
def behind (s : State) (raised : List Raised) : State :=
  { s with
    raised := raised
    intake := { s.intake with
      jobs := s.intake.jobs ++ [{ waitingJob with number := 8, chain := [50], delivery := .queued, printer := some 15 }] }
    delivery := { s.delivery with printers := s.delivery.printers.map fun q => (q.1, { q.2 with queue := q.2.queue ++ [8] }) } }

/-- Segment 3, where printer 15 is, is down. -/
def cutOff (s : State) : State := { s with ports := s.ports.set 3 (portIn .isolated) }

/-- Segment 3's service queue is full, one of its entries a print block of page 40. -/
def fullUp (s : State) : State :=
  { s with ports := s.ports.set 3 { s.port 3 with
      service := ⟨.span 40 0 256, ⟨9, 253, 0x10, 0, 256⟩, 1#3⟩ :: List.replicate 7 ⟨.nothing, ⟨9, 253, 0x13, 0, 0⟩, 1#3⟩ } }

/-- The form of a queue, as Lean evaluates it. -/
def queueCheck (s : State) (p : Nat) (e : Printer) : Bool :=
  decide (s.printer p = some e) && s.delivery.wf && decide (s.intake.jobs.map Job.number).Nodup && decide e.queue.Nodup &&
    (e.queue.all fun n => (s.job n).any fun k => decide (k.printer = some p) && decide (k.delivery ≠ .waiting)) &&
    (e.queue.tail.all fun n => (s.job n).all fun k => decide (k.delivery = .queued)) &&
    e.queue.all fun n => (s.job n).all fun k => !decide (k.delivery = .queued) || k.chain.all fun page =>
      (segments.all fun i => (s.port i).service.all fun x => !x.isPage page) && s.uplink.service.all fun x => !x.isPage page

theorem queueWf_of {s : State} {p : Nat} {e : Printer} (h : queueCheck s p e = true) : s.queueWf p e := by
  simp only [queueCheck, Bool.and_eq_true, decide_eq_true_eq, List.all_eq_true, Option.any_eq_true, Option.all_eq_true,
    Bool.or_eq_true, Bool.not_eq_true', decide_eq_false_iff_not] at h
  obtain ⟨⟨⟨⟨⟨⟨here, delivery⟩, numbers⟩, once⟩, bound⟩, tail⟩, unsent⟩ := h
  refine ⟨here, delivery, numbers, once, bound, tail, fun n hn k hk hq page hp => ?_⟩
  have h := ((unsent n hn k hk).resolve_left fun h => h hq) page hp
  exact ⟨fun i => h.1 i (by revert i; decide), h.2⟩

/-- No printer of a waiting job's group is able, as Lean evaluates it. -/
def boundCheck (s : State) : Bool :=
  s.intake.jobs.all fun j => !decide (j.delivery = .waiting) || (j.group.bind s.group).all fun grp => grp.members.all fun p =>
    (s.printer p).all fun e => decide (s.unreachable e.station ≠ none) || decide (e.pause ≠ PauseSet.clear)

theorem bindsNothing_of {s : State} (h : boundCheck s = true) : s.bindsNothing := by
  intro j hj hw g grp hg hgrp _ p hp e ha
  simp only [boundCheck, List.all_eq_true, Option.all_eq_true, Bool.or_eq_true, Bool.not_eq_true', decide_eq_true_eq,
    decide_eq_false_iff_not] at h
  have h := (h j hj).resolve_left (fun h => h hw) grp (by rw [hg]; exact hgrp) p hp e ha.1
  exact h.elim (fun h => absurd ha.2.1 h) fun h => absurd ha.2.2 h

/-- A HELD head under a HELD printer once HELD is taken off. -/
def resuming : State :=
  let s := carrying (pausedHead heldPause [40] 256 true) [.jobEnded 15]
  s.printingSet 15 { entry15 s with pause := PauseSet.clear } s.intake.jobs s.mgmt

theorem jobsWith_idle {s : State} {j : Job} (h : j.delivery ≠ .waiting) (idle : ∀ k ∈ s.intake.jobs, k.delivery ≠ .waiting) :
    ∀ k ∈ s.jobsWith j, k.delivery ≠ .waiting := by
  intro k hk
  obtain ⟨x, hx, rfl⟩ := List.mem_map.1 hk
  split
  · exact h
  · exact idle x hx

/-- A waiting head with a block to send starts, segment 3's service queue with room. -/
theorem evaluatesTo_start {s : State} {e : Printer} {j : Job}
    (h : queueCheck s 15 e = true ∧ (s.headJob e = some j ∧ (j.delivery = .queued ∨ j.delivery = .held) ∧ j.hasBlock = true) ∧
      (s.unreachable e.station = none ∧ e.pause = PauseSet.clear ∧ e.flight = none) ∧
      (s.routeTo e.station = some (.segment 3 1#3) ∧ (s.port 3).state = .forwarding ∧ (s.port 3).service.length < 8) ∧
      ∀ k ∈ s.intake.jobs, k.delivery ≠ .waiting) : ∃ t, s.evaluatesTo 15 e t ∧ t.bindsNothing := by
  obtain ⟨form, ⟨head, waits, block⟩, ⟨ready, clear, unsent⟩, ⟨route, room⟩, idle⟩ := h
  obtain ⟨u, sent⟩ : ∃ u, s.blockOffered e.station (j.block (if j.delivery = .queued then e.nextSeq else j.printerSeq)) u :=
    ⟨_, _, route, .inl ⟨room, rfl⟩⟩
  exact ⟨_, ⟨queueWf_of form, .inr (.inl ⟨ready, clear, j, head, waits, .inr ⟨unsent, block, _, u, rfl, sent, rfl⟩⟩)⟩,
    fun k hk hw => absurd hw (jobsWith_idle (by exact DeliveryState.noConfusion) idle k hk)⟩

/-- A head that is not ENDING on a printer that has stopped, no JOB_ABORT due. -/
theorem evaluatesTo_lost {s : State} {e : Printer} {j : Job}
    (h : queueCheck s 15 e = true ∧ s.headJob e = some j ∧ (s.unreachable e.station ≠ none ∨ e.pause ≠ PauseSet.clear) ∧
      (j.delivery ≠ .ending ∧ (s.unreachable e.station = none → j.delivery ≠ .printing ∧ j.number ∉ s.leavers e)) ∧
      boundCheck (s.lostFrom s 15 e) = true) : ∃ t, s.evaluatesTo 15 e t ∧ t.bindsNothing := by
  obtain ⟨form, head, stops, ⟨unended, stays⟩, idle⟩ := h
  refine ⟨_, ⟨queueWf_of form, .inr (.inr (.inl ⟨fun k hk => ?_, stops, s, .inr ⟨fun ⟨near, k, hk, leaves, _⟩ => ?_, rfl⟩, rfl⟩))⟩,
    bindsNothing_of idle⟩ <;> cases head.symm.trans hk
  · exact ⟨unended, fun near => (stays near).1⟩
  · exact (stays near).2 leaves

/-- The same with a JOB_ABORT due, which segment 3's full service queue refuses. -/
theorem evaluatesTo_aborted {s : State} {e : Printer} {j : Job}
    (h : queueCheck s 15 e = true ∧ s.headJob e = some j ∧ (s.unreachable e.station = none ∧ e.pause ≠ PauseSet.clear) ∧
      (j.number ∈ s.leavers e ∧ j.delivery = .held ∧ j.blockOffered = true) ∧
      (s.routeTo e.station = some (.segment 3 1#3) ∧ ¬ (s.port 3).service.length < 8) ∧
      boundCheck (s.lostFrom (s.serviceRefused (.segment 3 1#3)) 15 e) = true) : ∃ t, s.evaluatesTo 15 e t ∧ t.bindsNothing := by
  obtain ⟨form, head, ⟨near, paused⟩, ⟨leaves, held, offered⟩, ⟨route, full⟩, idle⟩ := h
  refine ⟨_, ⟨queueWf_of form, .inr (.inr (.inl ⟨fun k hk => ?_, .inr paused, _, .inl ⟨⟨near, j, head, leaves, held, offered⟩, ?_⟩,
    rfl⟩))⟩, bindsNothing_of idle⟩
  · cases head.symm.trans hk
    simp [held]
  · exact ⟨_, route, .inr ⟨fun room => full room.2, rfl⟩⟩

/-- An ENDING head of a printer that is UNREACHABLE. -/
theorem evaluatesTo_ended {s : State} {e : Printer} {j : Job}
    (h : queueCheck s 15 e = true ∧ s.headJob e = some j ∧ s.unreachable e.station ≠ none ∧
      (j.delivery = .ending ∧ j.chain = [] ∧ j.pendingOutcome ≠ some .printed) ∧ boundCheck (s.endedAway 15 e j) = true) :
    ∃ t, s.evaluatesTo 15 e t ∧ t.bindsNothing := by
  obtain ⟨form, head, lost, ⟨ending, empty, unprinted⟩, idle⟩ := h
  exact ⟨_, ⟨queueWf_of form, .inr (.inr (.inr ⟨lost, j, head, ending, empty, unprinted, rfl⟩))⟩, bindsNothing_of idle⟩

/-- The two pages of job 7 QUEUED at the head, job 8 behind it. -/
def starting : State := behind (withHead .queued none [40, 41] 0 0 true) [.jobEnded 15]

/-- A waiting head starts or resumes with a block to send: QUEUED, and HELD as RELEASE_PRINTER finds it. -/
theorem witness_evaluatesTo_starts :
    (∃ t, starting.evaluatesTo 15 (entry15 starting) t ∧ t.bindsNothing) ∧
    ∃ t, resuming.evaluatesTo 15 (entry15 resuming) t ∧ t.bindsNothing :=
  ⟨evaluatesTo_start (j := head15 starting) (by decide +kernel), evaluatesTo_start (j := head15 resuming) (by decide +kernel)⟩

/-- An unreachable printer with a part-delivered PRINTING head. -/
def lostWith (raised : List Raised) : State := cutOff (behind (withHead .printing none [40, 41] 256 0 true) raised)

/-- A printer that HOLD_PRINTER has just held, its head and a job behind it. -/
def holding : State :=
  let s := behind (withHead .printing none [40, 41] 256 0 true) []
  s.printingSet 15 { entry15 s with pause := heldPause }
    (s.intake.jobs.map fun k =>
      if (entry15 s).queue.head? = some k.number ∧ k.delivery = .printing then { k with delivery := .held } else k) s.mgmt

/-- A paused printer whose undelivered HELD head, its print block on a full service queue, is to leave. -/
def leaving : State := carrying (fullUp (pausedHead heldPause [40] 0 true)) [.jobEnded 15]

/-- An unreachable printer with an ENDING head. -/
def endingAway : State := cutOff (behind (withHead .ending (some .cancelled) [] 256 0 true) [.segmentChange 3])

/-- A printer that has stopped: UNREACHABLE, just held, with a JOB_ABORT due, and with an ENDING head. -/
theorem witness_evaluatesTo_stops :
    (∃ t, (lostWith [.jobEnded 15]).evaluatesTo 15 (entry15 (lostWith [.jobEnded 15])) t ∧ t.bindsNothing) ∧
    (∃ t, holding.evaluatesTo 15 (entry15 holding) t ∧ t.bindsNothing) ∧
    (∃ t, leaving.evaluatesTo 15 (entry15 leaving) t ∧ t.bindsNothing) ∧
    ∃ t, endingAway.evaluatesTo 15 (entry15 endingAway) t ∧ t.bindsNothing :=
  ⟨evaluatesTo_lost (j := head15 (lostWith [.jobEnded 15])) (by decide +kernel), evaluatesTo_lost (j := head15 holding) (by decide +kernel),
    evaluatesTo_aborted (j := head15 leaving) (by decide +kernel), evaluatesTo_ended (j := head15 endingAway) (by decide +kernel)⟩

theorem witness_PrinterEvaluation_jobs :
    (∀ s ∈ [starting, lostWith [.jobEnded 15], leaving],
      s.delivery.wf = true ∧ s.printer 15 = some (entry15 s) ∧ s.raised = [] ++ .jobEnded 15 :: []) ∧
      (endingAway.delivery.wf = true ∧ endingAway.raised = [] ++ .segmentChange 3 :: []) ∧
      ∃ t, endingAway.evaluatesAllTo (endingAway.delivery.printers.map Prod.fst) t ∧ t.bindsNothing := by
  obtain ⟨t, ht, hb⟩ := witness_evaluatesTo_stops.2.2.2
  exact ⟨by decide +kernel, by decide +kernel, t, ⟨_, t, ht, rfl⟩, hb⟩

/-- HOLD_PRINTER and RELEASE_PRINTER as the printers above find them, and CLEAR_PRINTER with a JOB_ABORT due and no room for it. -/
theorem witness_HoldReleaseAndClearPrinter_jobs :
    (let s := behind (withHead .printing none [40, 41] 256 0 true) []
     s.takes 1 ∧ s.printer 15 = some (entry15 s) ∧ { (entry15 s).pause with held := true } = heldPause ∧ heldPause ≠ (entry15 s).pause ∧
       s.headJob (entry15 s) = some (head15 s) ∧ (head15 s).delivery = .printing) ∧
    (let s := carrying (pausedHead heldPause [40] 256 true) [.jobEnded 15]
     s.takes 1 ∧ s.printer 15 = some (entry15 s) ∧
       { (entry15 s).pause with held := false, stopped := false } = PauseSet.clear ∧ PauseSet.clear ≠ (entry15 s).pause) ∧
    (leaving.takes 1 ∧ leaving.printer 15 = some (entry15 leaving) ∧ leaving.headJob (entry15 leaving) = some (head15 leaving) ∧
      (head15 leaving).delivery = .held ∧ (head15 leaving).blockOffered = true ∧ leaving.unreachable 9 = none ∧
      (leaving.group 7).map Group.members = some [15]) ∧
    leaving.queueWf 15 (entry15 leaving) ∧
    ∃ u, leaving.offeredTo 9 .nothing ⟨9, leaving.table.gateway, 0x13, 0, 0⟩ u :=
  ⟨by decide +kernel, by decide +kernel, by decide +kernel, queueWf_of (by decide +kernel),
    ⟨_, .segment 3 1#3, by decide +kernel, .inr ⟨fun h => absurd h.2 (by decide +kernel), rfl⟩⟩⟩

/-- A printer at work stays BUSY. -/
theorem evaluatesTo_busy {s : State} {e : Printer} {j : Job}
    (h : queueCheck s 15 e = true ∧ s.headJob e = some j ∧ (j.delivery = .printing ∨ j.delivery = .ending) ∧
      s.unreachable e.station = none ∧
      boundCheck (s.printingSet 15 (e.seen .busy none) s.intake.jobs (s.mgmt.told 15 e .busy none)) = true) :
    ∃ t, s.evaluatesTo 15 e t ∧ t.bindsNothing := by
  obtain ⟨form, head, works, near, idle⟩ := h
  exact ⟨_, ⟨queueWf_of form, .inl ⟨near, .busy, .inl ⟨j, head, works, rfl⟩, rfl⟩⟩, bindsNothing_of idle⟩

/-- Group 7 as a SET_GROUP leaves it that puts printer 14, on a station not known, in the place of printer 15. -/
def without15 : State :=
  let s := behind (withHead .printing none [40, 41] 256 0 true) []
  { s with delivery := ⟨(14, readyPrinter 12) :: s.delivery.printers, tablePut s.delivery.groups 7 ⟨200, false, 0, [14], true⟩⟩ }

/-- The same once job 8 is back in its wait list. -/
def gaveUp : State :=
  without15.printingSet 15 ((entry15 without15).left [8])
    (without15.intake.jobs.map fun k => if [8].contains k.number then k.returned else k) without15.mgmt

theorem witness_SetGroup_removed : ∃ u, without15.givesUpTo 7 [15] u ∧ u.bindsNothing := by
  obtain ⟨u, hu, hb⟩ := evaluatesTo_busy (s := gaveUp) (e := (entry15 without15).left [8]) (j := head15 gaveUp)
    (by decide +kernel)
  exact ⟨u, ⟨entry15 without15, u, [8], queueWf_of (by decide +kernel), by decide +kernel, hu, rfl⟩, hb⟩

/-- The office with its waiting job put in printer 15's queue. -/
def binding : State :=
  (withJob waitingJob).printingSet 15 { readyPrinter 9 with queue := [7] }
    ((withJob waitingJob).jobsWith { waitingJob with delivery := .queued, printer := some 15 }) (withJob waitingJob).mgmt

theorem witness_SetGroup_bound :
    (withJob waitingJob).givesUpTo 7 [] (withJob waitingJob) ∧ (withJob waitingJob).job 7 = some waitingJob ∧
      waitingJob.delivery = .waiting ∧ ∃ v, (withJob waitingJob).bindsTo ⟨200, false, 0, [15], true⟩ waitingJob v := by
  obtain ⟨v, hv, -⟩ := evaluatesTo_start (s := binding) (e := { readyPrinter 9 with queue := [7] }) (j := head15 binding)
    (by decide +kernel)
  exact ⟨rfl, by decide +kernel, rfl, v, 15, readyPrinter 9, [7], .inl rfl,
    ⟨by decide, ⟨by decide +kernel, by decide +kernel, rfl⟩, .inr ⟨rfl, rfl, [], [], rfl, by simp⟩⟩, .inl ⟨rfl, rfl⟩, hv⟩

/-- The open job 7 in printer 15's queue while its station's frame is heard. -/
def openAt (d : DeliveryState) (s : State) : State :=
  hearingGood { s with
    intake := { s.intake with jobs := [{ openJob 300 [40, 41] with delivery := d, printer := some 15 }], nextNumber := 65535 }
    delivery := { s.delivery with printers := [(15, { readyPrinter 9 with queue := [7] })] } }

theorem witness_PrintBlockStored_abandoned :
    (∀ s ∈ [openAt .queued office, openAt .held office, openAt .held (cutOff office)],
      s.pagesWf = true ∧ (s.port 0).state = .forwarding ∧ (s.port 0).receiver.lineCarrier = true ∧
        (s.port 0).receiver.reception = some ⟨.accepted 0 0, false, false⟩ ∧ (s.table.entry 5).known = .active ⟨0, 1, 0⟩ ∧
        (s.job 7).map (fun j => (j.source, j.origin, j.group, j.isOpen)) = some (5, .segment 0, some 7, true) ∧
        s.printer 15 = some (entry15 s) ∧ (entry15 s).queue = [7]) ∧
      ((openAt .queued office).unreachable 9 = none ∧ (openAt .held office).unreachable 9 = none ∧
        (openAt .held (cutOff office)).unreachable 9 ≠ none) ∧
      (let later (n : Half) : Half := if n = 65535 then 1 else n + 1
       Nat.repeat later 2 65535 = 2) := by decide +kernel

theorem witness_MessagesRefused_content :
    let s := after (.getInfo 0) State.reset
    s.mgmt.pinHeld = false ∧ State.reset.mgmt.rx.hunting = true ∧
      (∀ n ∈ [0, 1, 4, 5, 305, 306], ∀ x ∈ List.replicate n (true, (0x7E : Byte)),
        if x.1 = true then x.2 ≠ 0x5E else x.2 ≠ 0x7D ∧ x.2 ≠ 0x7E) ∧
      ((List.replicate 4 (true, (0x7E : Byte))).map Prod.snd).length < 5 ∧
      305 < ((List.replicate 306 (true, (0x7E : Byte))).map Prod.snd).length ∧
      (let content := (List.replicate 305 (true, (0x7E : Byte))).map Prod.snd
       content.length ≤ 305 ∧ 256 * (content.getD 3 0).toNat + (content.getD 4 0).toNat ≠ content.length - 5) := by
  decide +kernel
end Sys2Proof.Tests
end

