-- ==== Sys2Proof/Proofs/LineTest.lean ====
section
/-! PROOF. The line test: START_LINE_TEST (R67, R69) and the trim search (R76, R77). -/

namespace Sys2Proof.Machine.LineTest

/-! ## Requests that are refused, and requests that are taken -/

/-- A taken request whose rule refuses it changes nothing but the answer (R173). -/
theorem request_refused {s : State} {tag : Byte} (h : s.takes tag) (code : Byte) {handler : State → State × Answer} {status : Status}
    (refused : handler s.bufferEmptied = refuse status s.bufferEmptied) :
    s.request code tag handler = .next { s with mgmt := s.mgmt.answered (replyMsg code tag status []) } := by
  rw [State.request_taken h, refused]
  rfl

/-- START_LINE_TEST on segment `i` is the request of its handler there. -/
theorem exec_startLineTest (tag trim : Byte) (i : SegIx) (s : State) :
    exec (.startLineTest tag (segByte i) trim) s = s.request 0x27 tag (State.startLineTest trim i) := by
  have handler : onSegment (segByte i) (State.startLineTest trim) = State.startLineTest trim i :=
    funext (onSegment_segment i _)
  change s.request 0x27 tag (onSegment (segByte i) (State.startLineTest trim)) = _
  rw [handler]

/-! ## How START_LINE_TEST is judged (R67) -/

/-- A flag byte above 1 has no meaning (R170). -/
theorem flagOf_none {b : Byte} (h : 1 < b.toNat) : flagOf b = none := by
  have zero : b ≠ 0x00 := by rintro rfl; simp at h
  have one : b ≠ 0x01 := by rintro rfl; simp at h
  rw [flagOf, if_neg zero, if_neg one]

/-- A flag byte of 0 or 1 says whether it is 1. -/
theorem flagOf_some {b : Byte} (h : b.toNat ≤ 1) : flagOf b = some (decide (b = 1)) := by
  have : b = 0 ∨ b = 1 := by bv_omega
  rcases this with rfl | rfl <;> rfl

theorem startLineTest_range {trim : Byte} (h : 1 < trim.toNat) (i : SegIx) (s : State) :
    s.startLineTest trim i = refuse .range s := by
  simp [State.startLineTest, flagOf_none h]

theorem startLineTest_state {trim : Byte} (h : trim.toNat ≤ 1) {i : SegIx} {s : State}
    (state : (s.port i).state = .disabled ∨ (s.port i).state = .settling ∨ (s.port i).state = .forwarding) :
    s.startLineTest trim i = refuse .state s := by
  unfold State.startLineTest
  rw [flagOf_some h]
  rcases state with state | state | state <;> simp [state]

/-- On an ISOLATED or PARKED segment the tester decides. -/
theorem startLineTest_arbitrate {trim : Byte} (h : trim.toNat ≤ 1) {i : SegIx} {s : State}
    (state : (s.port i).state = .isolated ∨ (s.port i).state = .parked) :
    s.startLineTest trim i = s.arbitrate (decide (trim = 1)) i := by
  unfold State.startLineTest
  rw [flagOf_some h]
  rcases state with state | state <;> simp [state]

theorem arbitrate_busy {s : State} (busy : s.tester.context.isSome = true) (trim : Bool) (i : SegIx) :
    s.arbitrate trim i = refuse .busy s := by
  obtain ⟨c, hc⟩ := Option.isSome_iff_exists.1 busy
  simp [State.arbitrate, hc]

theorem arbitrate_free {s : State} (free : s.tester.context = none) (trim : Bool) (i : SegIx) :
    s.arbitrate trim i = (s.startTest i .request trim, ⟨.accepted, []⟩) := by
  simp [State.arbitrate, free]

theorem startLineTest_busy {trim : Byte} (h : trim.toNat ≤ 1) {i : SegIx} {s : State}
    (busy : (s.port i).state = .testing ∨
      (((s.port i).state = .isolated ∨ (s.port i).state = .parked) ∧ s.tester.context.isSome = true)) :
    s.startLineTest trim i = refuse .busy s := by
  rcases busy with testing | ⟨state, busy⟩
  · simp [State.startLineTest, flagOf_some h, testing]
  · rw [startLineTest_arbitrate h state, arbitrate_busy busy]

/-! ## The start of a test (R69) -/

/-- The context of a test that starts now on segment `i`. -/
def startContext (s : State) (i : SegIx) (cause : TestCause) (trim : Bool) : TestContext :=
  { segment := i, cause := cause, stage := .quietCheck, attempts := 1, trimRequested := trim, accepted := 0, bit := 5,
    prior := (s.port i).trim, parkedBefore := (s.port i).state = .parked, rangingDone := false, wait := .stopped,
    raiseAfterWait := false }

/-- A test starts as the tester takes its context and the port goes to TESTING. -/
theorem startTest_eq (s : State) (i : SegIx) (cause : TestCause) (trim : Bool) :
    s.startTest i cause trim =
      ((s.setContext (some (startContext s i cause trim))).setPending i false).changeState i .testing none .tester := rfl

theorem startTest_tester (s : State) (i : SegIx) (cause : TestCause) (trim : Bool) :
    (s.startTest i cause trim).tester = { s.tester with
      context := some (startContext s i cause trim), pendingFlags := s.tester.pendingFlags.set i false } := by
  rw [startTest_eq, State.changeState_frame]
  rfl

/-- What a test's start touches when it flushes no queue. -/
theorem startTest_frame {s : State} {i : SegIx} (h : (s.port i).state ≠ .forwarding) (cause : TestCause) (trim : Bool) :
    s.startTest i cause trim = { s with
      ports := (s.startTest i cause trim).ports
      sups := (s.startTest i cause trim).sups
      tester := (s.startTest i cause trim).tester
      raised := (s.startTest i cause trim).raised
      mgmt := (s.startTest i cause trim).mgmt } := by
  have pool : (s.startTest i cause trim).pool = s.pool := by
    rw [startTest_eq, State.changeState_pool _ _ _ _ _ (by simpa using h)]
    rfl
  have frame := State.changeState_frame ((s.setContext (some (startContext s i cause trim))).setPending i false) i .testing none .tester
  rw [← startTest_eq, pool] at frame
  rw [startTest_tester]
  exact frame

/-- The port of the segment under test (R12, R15, R69). -/
theorem startTest_port_same {s : State} {i : SegIx} (h : (s.port i).state ≠ .forwarding) (timer : (s.port i).settleTimer = .stopped)
    (cause : TestCause) (trim : Bool) :
    (s.startTest i cause trim).port i = { s.port i with
      state := .testing
      relay := .transceiver
      lineCode := 48
      receiver := { (s.port i).receiver with marked := false, carrierTimer := .stopped, reception := none } } := by
  rw [startTest_eq, State.changeState_port_same]
  simp [h, ← timer, SegState.relay, Port.codeFor, nominalCode, nextReason, Receiver.change, SegState.detectsJabber]

/-- The supervision context of the segment under test: JABBER has stopped where the receiver had marked it (R12). -/
theorem startTest_sup_same (s : State) (i : SegIx) (cause : TestCause) (trim : Bool) :
    (s.startTest i cause trim).sup i = { s.sup i with live := { (s.sup i).live with
      jabber := (s.sup i).live.jabber && !(s.port i).receiver.marked } } := by
  rw [startTest_eq, State.changeState_sup]
  cases marked : (s.port i).receiver.marked <;> simp [marked, SegState.detectsJabber, CondSet.set]

theorem startTest_port_ne (s : State) {i j : SegIx} (h : j ≠ i) (cause : TestCause) (trim : Bool) :
    (s.startTest i cause trim).port j = s.port j := by
  rw [startTest_eq, State.changeState_port_ne _ _ _ _ h]
  rfl

theorem startTest_sup_ne (s : State) {i j : SegIx} (h : j ≠ i) (cause : TestCause) (trim : Bool) :
    (s.startTest i cause trim).sup j = s.sup j := by
  rw [startTest_eq, State.changeState_sup, if_neg fun same => h same.1]
  rfl

theorem startTest_raised (s : State) (i : SegIx) (cause : TestCause) (trim : Bool) :
    (s.startTest i cause trim).raised = s.raised ++ [.stateEntry i (s.port i).state .testing (s.port i).reason] ++
      (if (s.port i).state = .isolated then [.leftIsolated i] else []) ++ [.segmentChange i] := by
  rw [startTest_eq, State.changeState_raised]
  rfl

/-- The notice of a test's start gives TRANSCEIVER and line code 48 (R23; log entry 31). -/
theorem startTest_mgmt (s : State) (i : SegIx) (cause : TestCause) (trim : Bool) :
    (s.startTest i cause trim).mgmt =
      s.mgmt.noted (.segmentState i (s.port i).state .testing none .transceiver 48 .tester) := by
  rw [startTest_eq, State.changeState_mgmt, State.changeState_port_same]
  rfl

/-- In a state other than SETTLING the settle timer stands still (R25). -/
theorem settleTimer_stopped {s : State} (wf : s.portsWf = true) {i : SegIx} (h : (s.port i).state ≠ .settling) :
    (s.port i).settleTimer = .stopped := by
  simp only [State.portsWf, Bool.and_eq_true, segments_all] at wf
  have port := wf.1 i
  simp only [Port.wf, Bool.and_eq_true, decide_eq_true_eq] at port
  obtain ⟨⟨⟨⟨⟨-, timer⟩, -⟩, -⟩, -⟩, -⟩ := port
  cases running : (s.port i).settleTimer with
  | stopped => rfl
  | running left => simp [running, Timer.isRunning, h] at timer

/-! ## START_LINE_TEST -/

/-- Settles O20: the three refusals are the handler's branches; the start is read off the laws of `startTest`. -/
theorem startLineTest : Obligations.StartLineTest := by
  intro i tag trim s takes wf
  refine ⟨fun range => ?_, fun flag state => ?_, fun flag busy => ?_, fun flag state free => ?_⟩ <;> rw [exec_startLineTest]
  · exact request_refused takes _ (startLineTest_range range i _)
  · exact request_refused takes _ (startLineTest_state flag state)
  · exact request_refused takes _ (startLineTest_busy flag busy)
  · have unforwarding : (s.port i).state ≠ .forwarding := by rcases state with h | h <;> simp [h]
    have timer : (s.port i).settleTimer = .stopped := settleTimer_stopped wf (by rcases state with h | h <;> simp [h])
    have taken := State.request_taken takes 0x27 (State.startLineTest trim i)
    rw [startLineTest_arbitrate (s := s.bufferEmptied) flag state, arbitrate_free (s := s.bufferEmptied) free] at taken
    refine ⟨_, taken, ?_, ?_, ?_, ?_, ?_, ?_, fun j other => ⟨?_, ?_, ?_⟩, ?_, ?_⟩
    · rw [startTest_frame (s := s.bufferEmptied) unforwarding]
      rfl
    · rw [State.settle_tester, State.fileReply_tester, startTest_tester]
      rfl
    · exact congrArg Tester.context (startTest_tester s.bufferEmptied i .request _)
    · rw [State.settle_tester, State.fileReply_tester, startTest_tester, Four.get_set_same]
    · exact startTest_port_same (s := s.bufferEmptied) unforwarding timer .request _
    · exact startTest_sup_same s.bufferEmptied i .request _
    · exact startTest_port_ne s.bufferEmptied other .request _
    · exact startTest_sup_ne s.bufferEmptied other .request _
    · rw [State.settle_tester, State.fileReply_tester, startTest_tester, Four.get_set_ne _ _ other]
      rfl
    · exact startTest_raised s.bufferEmptied i .request _
    · exact Mgmt.noted_answered (startTest_mgmt s.bufferEmptied i .request _) _

end Sys2Proof.Machine.LineTest
end

