-- ==== Sys2Proof/Proofs/TrimSearch.lean ====
section
/-! PROOF. The trim search (R76, R77): six probes leave the greatest code whose resistance is above the line's. -/

namespace Sys2Proof.Machine.LineTest

/-! ## The arithmetic of the search -/

/-- The search has come down to the codes from `code` up to 2^k - 1 above it: `code` is 0 or reads ABOVE, and every code past those
reads BELOW the line of `a` / `b` ohms. -/
structure Narrowed (a b k : Nat) (code : LoadCode) : Prop where
  fits : code.toNat + 2 ^ k ≤ 64
  above : code ≠ 0 → a * code.toNat < 2400 * b
  below : ∀ x : LoadCode, code.toNat + 2 ^ k ≤ x.toNat → 2400 * b ≤ a * x.toNat

/-- Before the first probe all 64 codes are open. -/
theorem narrowed_start (a b : Nat) : Narrowed a b 6 0 where
  fits := by decide
  above := fun h => absurd rfl h
  below := fun x h => absurd x.isLt (by simpa using h)

/-- The code a probe leaves accepted (R76). -/
def keptCode (c : TestContext) (a b : Nat) : LoadCode := if trimAbove c.trial a b then c.trial else c.accepted

/-- The trial code is the accepted one with the bit under trial added. -/
theorem trial_toNat {c : TestContext} (h : c.accepted.toNat + 2 ^ (c.bit + 1) ≤ 64) :
    c.trial.toNat = c.accepted.toNat + 2 ^ c.bit := by
  have pos : 0 < 2 ^ c.bit := Nat.two_pow_pos _
  have double : 2 ^ (c.bit + 1) = 2 * 2 ^ c.bit := Nat.pow_succ'
  rw [TestContext.trial, BitVec.toNat_add, BitVec.toNat_twoPow]
  omega

/-- A probe halves the open codes: ABOVE keeps the upper half, BELOW the lower, a higher code having the lower resistance. -/
theorem Narrowed.probe {a b : Nat} {c : TestContext} (h : Narrowed a b (c.bit + 1) c.accepted) :
    Narrowed a b c.bit (keptCode c a b) := by
  have trial := trial_toNat h.fits
  have double : 2 ^ (c.bit + 1) = 2 * 2 ^ c.bit := Nat.pow_succ'
  have fits := h.fits
  unfold keptCode trimAbove
  by_cases above : a * c.trial.toNat < 2400 * b
  · rw [if_pos (decide_eq_true above)]
    exact ⟨by omega, fun _ => above, fun x hx => h.below x (by omega)⟩
  · rw [if_neg (by simpa using above)]
    refine ⟨by omega, h.above, fun x hx => ?_⟩
    calc 2400 * b ≤ a * c.trial.toNat := Nat.le_of_not_lt above
      _ ≤ a * x.toNat := Nat.mul_le_mul_left a (trial ▸ hx)

/-! ## What a test's end leaves of the trim codes -/

/-- A change of segment state leaves every trim code (R22). -/
theorem changeState_trim (s : State) (i j : SegIx) (new : SegState) (r : Option IsoReason) (cause : StateCause) :
    ((s.changeState i new r cause).port j).trim = (s.port j).trim := by
  by_cases h : j = i
  · subst h
    rw [State.changeState_port_same]
    by_cases forwarding : (s.port j).state = .forwarding
    · simp [forwarding, State.flushSegment_port]
    · simp [forwarding]
  · rw [State.changeState_port_ne s new r cause h]

theorem freeTester_trim (s : State) (j : SegIx) : (s.freeTester.port j).trim = (s.port j).trim := by
  unfold State.freeTester
  extract_lets s1
  split
  · rw [startTest_eq, changeState_trim]
    rfl
  · rfl

/-- The result of the search goes to the trim code, unless it is 0 (R77). -/
theorem applyTrim_trim (s : State) (i : SegIx) (code : LoadCode) :
    ((s.applyTrim i code).1.port i).trim = if code = 0 then (s.port i).trim else code := by
  unfold State.applyTrim
  split
  · rfl
  · exact congrArg Port.trim (State.setPort_port_same s i _)

/-- A CLEAN end leaves the code of a completed trim search as the segment's trim code, unless that code is 0 (R77, R78). -/
theorem endTest_trim (s : State) (c : TestContext) (code : LoadCode) :
    ((s.endTest c .clean (some code)).port c.segment).trim = if code = 0 then (s.port c.segment).trim else code := by
  simp [State.endTest, State.recordEcho, State.clearLive, freeTester_trim, changeState_trim, applyTrim_trim]

/-! ## One probe after another -/

/-- The state after `n` trim probes of a line of `a` / `b` ohms. -/
def probed (s : State) (a b : Nat) : Nat → State
  | 0 => s
  | n + 1 => ((probed s a b n).trimProbeComplete a b).settle

theorem exec_trimProbeComplete (s : State) (a b n : Nat) :
    exec (.trimProbeComplete a b) (probed s a b n) = .next (probed s a b (n + 1)) := rfl

/-- A probe of a bit above 0 stores the code it keeps and goes on to the next bit (R76). -/
theorem trimProbeComplete_next {s : State} {c : TestContext} (busy : s.tester.context = some c) (stage : c.stage = .trim)
    (bit : 0 < c.bit) (a b : Nat) :
    s.trimProbeComplete a b =
      let next := { c with accepted := keptCode c a b, bit := c.bit - 1 }
      (s.setContext (some next)).setLineCode c.segment next.trial := by
  simp [State.trimProbeComplete, busy, stage, State.completeTrimProbe, bit, keptCode]

/-- The probe of bit 0 ends the test (R77). -/
theorem trimProbeComplete_last {s : State} {c : TestContext} (busy : s.tester.context = some c) (stage : c.stage = .trim)
    (bit : c.bit = 0) (a b : Nat) :
    s.trimProbeComplete a b = s.endTest { c with accepted := keptCode c a b } .clean (some (keptCode c a b)) := by
  simp [State.trimProbeComplete, busy, stage, State.completeTrimProbe, bit, keptCode]

/-- The search on segment `i` is about to try bit `d.bit`, and the trim code still is `trim`. -/
structure Searching (i : SegIx) (trim : LoadCode) (a b : Nat) (t : State) (d : TestContext) : Prop where
  busy : t.tester.context = some d
  segment : d.segment = i
  stage : d.stage = .trim
  narrowed : Narrowed a b (d.bit + 1) d.accepted
  trim : (t.port i).trim = trim

/-- A probe that does not end the search keeps it going, one bit lower. -/
theorem Searching.next {i : SegIx} {trim : LoadCode} {a b : Nat} {t : State} {d : TestContext} (h : Searching i trim a b t d)
    (bit : 0 < d.bit) :
    Searching i trim a b (t.trimProbeComplete a b).settle { d with accepted := keptCode d a b, bit := d.bit - 1 } := by
  rw [trimProbeComplete_next h.busy h.stage bit]
  refine ⟨rfl, h.segment, h.stage, ?_, ?_⟩
  · rw [show d.bit - 1 + 1 = d.bit by omega]
    exact h.narrowed.probe
  · rw [← h.trim, ← h.segment]
    simp [State.setLineCode]

/-- Up to bit 0 the search stands at bit 5 - n after n probes. -/
theorem probed_searching {i : SegIx} {trim : LoadCode} {a b : Nat} {s : State} {c : TestContext} (start : Searching i trim a b s c)
    (bit : c.bit = 5) (n : Nat) (hn : n ≤ 5) : ∃ d, Searching i trim a b (probed s a b n) d ∧ d.bit = 5 - n := by
  induction n with
  | zero => exact ⟨c, start, bit⟩
  | succ n ih =>
    obtain ⟨d, going, reached⟩ := ih (by omega)
    exact ⟨_, going.next (by omega), by simp only [reached]; omega⟩

/-- Settles O49: each probe halves the open codes, and after the sixth one code is left. -/
theorem trimSearchFindsTheGreatestCode : Obligations.TrimSearchFindsTheGreatestCode := by
  intro s c a b busy stage accepted bit _ _
  have start : Searching c.segment (s.port c.segment).trim a b s c :=
    ⟨busy, rfl, stage, by rw [accepted, bit]; exact narrowed_start a b, rfl⟩
  obtain ⟨d, going, last⟩ := probed_searching start bit 5 (Nat.le_refl 5)
  have found : Narrowed a b 0 (keptCode d a b) := by rw [← show d.bit = 0 from last]; exact going.narrowed.probe
  refine ⟨probed s a b, d, keptCode d a b, rfl, fun n _ => exec_trimProbeComplete s a b n, going.busy, going.stage, last, ?_, ?_,
    found.above, found.below⟩
  · have trial : d.trial = d.accepted + 1 := by rw [TestContext.trial, last]; rfl
    simp [keptCode, trimAbove, trial]
  · have ends := endTest_trim (probed s a b 5) { d with accepted := keptCode d a b } (keptCode d a b)
    rw [← trimProbeComplete_last going.busy going.stage last, going.segment, going.trim] at ends
    exact ends

end Sys2Proof.Machine.LineTest
end
